-- ==== Sys2Proof/Word.lean ====
section
/-! DEFINITION. The words of the RG24 (00_scope.md 3.1): a word is 16 bits, bit 0 its least significant bit. -/

namespace Sys2Proof

/-- One word of buffer memory, of a frame, of the control page or of an event entry. -/
abbrev Word := BitVec 16

end Sys2Proof
end

