-- ==== Sys2Proof/Syntax.lean ====
section
/-! DEFINITION. The commands the part takes: one constructor for each row of spec/opcode_table.json, in the table's
order. The table gives no row any bits; the operands are what the row's rule needs from outside the part. -/

namespace Sys2Proof

/-- A frame end in RECEIVING (R4, R18): `words` are the whole words taken between the delimiters, header, check words and
payload, in the order they came. `pause` says whether claims of other classes come between the word accesses of the take
(R161): with none every word is accessed within the event, with `some k` the take stands in progress after `k` of them
(log 27). -/
structure FrameEnd where
  words : List Word
  pause : Option Nat
  deriving DecidableEq, Repr

/-- What the host does at its port with an address on HA0..HA14 (R158, R159): the write strobe begins with `value` on
HD0..HD15, the read strobe begins, or the read strobe ends. -/
inductive HostStrobe where
  | write (value : Word)
  | read
  | readEnds
  deriving DecidableEq, Repr

/-- One command: an event taken whole by the part. -/
inductive Instr where
  /-- POWER_ON_RESET (R21): supply is applied. -/
  | powerOnReset
  /-- PIN_RESET (R21): RSTN is asserted. -/
  | pinReset
  /-- RESET_RELEASE (R20): reset is released with the strap pins SID0..4, SCN0..4 and SRT0..1 at these levels. -/
  | resetRelease (sid : BitVec 5) (scn : BitVec 5) (srt : BitVec 2)
  /-- FRAME_DELIVERY (R18): a frame being taken in reaches its frame end. -/
  | frameDelivery (frame : FrameEnd)
  /-- LINE_DISTURBANCE (R14): the first line disturbance in what is being taken in. -/
  | lineDisturbance
  /-- READ_BACK_MISMATCH (R13): the transmitter reads back a level it does not drive. -/
  | readBackMismatch
  /-- JAM_END (R5): 16 bit times of jam have been driven; `released` says whether the line is already released. -/
  | jamEnd (released : Bool)
  /-- LINE_IDLE (R15): the line has been released for one bit time. -/
  | lineIdle
  /-- STUCK_CONDITION (R16): a run of continuous activity exceeds the stuck limit. -/
  | stuckCondition
  /-- STUCK_CONDITION_END (R16): the line has been released for one bit time in the stuck condition. -/
  | stuckConditionEnd
  /-- EXCHANGE_END (R8): the line has stayed idle for R bit times after the last activity. -/
  | exchangeEnd
  /-- DRAIN_COMPLETE (R26): the station controller tests whether the drain is complete. -/
  | drainComplete
  /-- SLOT_START (R9): the next slot starts. -/
  | slotStart
  /-- REPLY_START (R6): 8 bit times have passed since the frame end of a request with a reply owed. -/
  | replyStart
  /-- OWN_FRAME_COMPLETION (R32): the last half-bit of the own frame has been driven and read back. -/
  | ownFrameCompletion
  /-- SILENCE_TIMER_EXPIRY (R38): the silence timer reaches S. -/
  | silenceTimerExpiry
  /-- BEACON_TIMER_EXPIRY (R39): the beacon timer reaches B. -/
  | beaconTimerExpiry
  /-- HOLD_TIMER_EXPIRY (R82): the hold timer of `lane` reaches H. -/
  | holdTimerExpiry (lane : Fin 8)
  /-- WAIT_TIMER_EXPIRY (R102): the wait timer of `lane` reaches its limit. -/
  | waitTimerExpiry (lane : Fin 8)
  /-- WAIT_EXPIRY_TAKE (R102): the flag unit takes the expiry of `lane`. -/
  | waitExpiryTake (lane : Fin 8)
  /-- WAIT_REQUEST_TAKE (R101): the flag unit takes the wait request of `lane`. -/
  | waitRequestTake (lane : Fin 8)
  /-- FLAG_REQUEST_TAKE (R88): the flag unit takes the set or clear request of `lane`. -/
  | flagRequestTake (lane : Fin 8)
  /-- WAIT_REMOVAL_TAKE (R103): the flag unit takes the removal of `lane`. -/
  | waitRemovalTake (lane : Fin 8)
  /-- CONTEXT_TIMER_EXPIRY (R122): the timer of context table entry `entry` reaches C. -/
  | contextTimerExpiry (entry : Fin 12)
  /-- PRESENCE_TIMER_EXPIRY (R143): the presence timer of `station` reaches P. -/
  | presenceTimerExpiry (station : Fin 32)
  /-- LANE_WORD_ACCESS (R160): the buffer memory controller serves one waiting claim. -/
  | laneWordAccess
  /-- QUEUE_TAKE (R153): the event queue takes one report. -/
  | queueTake
  /-- HOST_MEMORY_WRITE (R158): a host write at host address `address`, as `strobe` selects. The host's reads and the end
  of a read's strobe, which have no row, are further values of `strobe` (log 25). -/
  | hostMemoryWrite (address : BitVec 15) (strobe : HostStrobe)
  /-- WRITE_INTERRUPT_ENABLES (R156): a host write to control page word 3. -/
  | writeInterruptEnables (value : Word)
  /-- WRITE_CAUSES (R164): a host write to control page word 4. -/
  | writeCauses (value : Word)
  /-- EVENT_ACKNOWLEDGE (R155): a host write to control page word 16. -/
  | eventAcknowledge (value : Word)
  /-- TIME_BASE_LOW_READ (R163): a host read of control page word 5. -/
  | timeBaseLowRead
  /-- CONTROL_PAGE_WRITE (R162): a host write to control page word `page`. -/
  | controlPageWrite (page : BitVec 5) (value : Word)
  /-- JOIN (R24): the take of a waiting command with code 1. -/
  | join
  /-- LEAVE (R25): the take of code 2. -/
  | leave
  /-- START_LANE (R76): the take of code 3; parameters 0 and 1 of the slot are the lane and the chain address. -/
  | startLane
  /-- STOP_LANE (R93): the take of code 4; parameter 0 is the lane. -/
  | stopLane
  /-- OPEN_PORT (R112): the take of code 5; parameter 0 is the port. -/
  | openPort
  /-- CLOSE_PORT (R113): the take of code 6; parameter 0 is the port. -/
  | closePort
  /-- POST_RECEIVE (R111): the take of code 7; parameters 0 to 2 are port, buffer address and capacity. -/
  | postReceive
  /-- LOAD_WINDOW (R131): the take of code 8; parameters 0 to 5 are window, base, length, access word, peer mask. -/
  | loadWindow
  /-- CLEAR_WINDOW (R132): the take of code 9; parameter 0 is the window. -/
  | clearWindow
  /-- SET_FLAGS (R104): the take of code 10; parameters 0 and 1 are the mask. -/
  | setFlags
  /-- CLEAR_FLAGS (R104): the take of code 11; parameters 0 and 1 are the mask. -/
  | clearFlags
  /-- SET_SIGNAL_MASKS (R105): the take of code 12; parameters 0, 1 accept and 2, 3 notify. -/
  | setSignalMasks
  /-- UNKNOWN_COMMAND (R166): the take of a code of 13 to 255. -/
  | unknownCommand
  /-- FIRST_ACTIVE_HALF_BIT (R3): the first active half-bit after an idle line, driven by another station. -/
  | firstActiveHalfBit
  /-- COMMAND_WORD_WRITE (R165): a host write to control page word 17. -/
  | commandWordWrite (value : Word)
  deriving DecidableEq, Repr

end Sys2Proof
end

