-- ==== Sys2Proof/Config.lean ====
section
/-! DEFINITION. What the book fixes for every RG24: the line timing parameters of Table 0.4, the sizes of the part's
tables, and the identity word. All times are in bit times. -/

namespace Sys2Proof.Config

/-- R, the reply gap (Table 0.4). -/
def replyGap : Nat := 16
/-- G, the idle gap between an exchange end and slot 0 (Table 0.4). -/
def idleGap : Nat := 32
/-- L, the slot length (Table 0.4). -/
def slotLength : Nat := 16
/-- B, the beacon interval (Table 0.4). -/
def beaconInterval : Nat := 16384
/-- S, the silence interval (Table 0.4). -/
def silenceInterval : Nat := 32768
/-- P, the presence timeout (Table 0.4). -/
def presenceTimeout : Nat := 65536
/-- C, the context timeout (Table 0.4). -/
def contextTimeout : Nat := 262144
/-- H, the busy hold (Table 0.4). -/
def busyHold : Nat := 2048
/-- The stuck limit of the line monitor (Table 0.4, R16). -/
def stuckLimit : Nat := 1300
/-- The length of a jam (R5). -/
def jamLength : Nat := 16
/-- The point after a request's frame end at which the reply begins (R6). -/
def replyStart : Nat := 8

/-- Words of buffer memory (00_scope.md 3.1). -/
def memoryWords : Nat := 16384
/-- Entries of the event queue (R149). -/
def queueSize : Nat := 64
/-- Buffers that may count against one port (R110). -/
def portBuffers : Nat := 8
/-- The highest descriptor address (R76, R91). -/
def lastDescriptor : Nat := 16376
/-- Control page word 0: part code 24, revision 1 (R163, R173). -/
def identity : Word := 0x1801

end Sys2Proof.Config
end

