-- ==== Sys2Proof/Machine/Types.lean ====
section
/-! DEFINITION. The named things of the book: states, codes, frames, events. Their numeric codes and their places in
words stand in Machine/Layout.lean. -/

namespace Sys2Proof.Machine

/-! ### The line (chapter 1) -/

/-- A line level (R1). -/
inductive Level where
  | released | mark | space | contend
  deriving DecidableEq, Repr

/-- The line activity states (Table 1.3). -/
inductive LineActivity where
  | idle | receiving | sending | jamming | disturbed
  deriving DecidableEq, Repr

/-- The class of a frame, fixed by its start point (R7). -/
inductive FrameClass where
  | reply | contention
  deriving DecidableEq, Repr

/-- Where slot counting stands (R9): not counting, `beforeSlot0 t` with `t` bit times since the exchange end, or
`inSlot t` with `t` bit times since the start of the latest slot. -/
inductive SlotCount where
  | stopped
  | beforeSlot0 (t : Nat)
  | inSlot (t : Nat)
  deriving DecidableEq, Repr

/-! ### Frames (chapter 3) -/

/-- The four header words of a frame (R42). -/
structure Header where
  h0 : Word
  h1 : Word
  h2 : Word
  h3 : Word
  deriving DecidableEq, Repr

/-- The known frame kinds (Table 3.3). -/
inductive FrameKind where
  | announce | beacon | data | cancel | read | write | signal | reply
  deriving DecidableEq, Repr

/-- The reply codes that are sent (Table 3.6, codes 0..12). -/
inductive ReplyCode where
  | accepted | busyNoBuffer | busyNoContext | busyPending | refusedClosed | refusedLength | refusedStray
  | refusedWindow | refusedBounds | refusedDenied | refusedMasked | checkError | refusedMalformed
  deriving DecidableEq, Repr

/-- The header fields a lane or the scheduler fixes before the choice (R62): everything but source, source lane
and epoch. -/
structure FrameHead where
  kind : FrameKind
  destination : Fin 32
  all : Bool
  selector : Fin 32
  h2 : Word
  h3 : Word
  deriving DecidableEq, Repr

/-- A frame that a lane has prepared (Table 5.1): header fields and up to 32 payload words. -/
structure PreparedFrame where
  head : FrameHead
  payload : List Word
  deriving DecidableEq, Repr

/-- A frame the transmitter is driving (R6): its class, its header words and its payload. -/
structure Transmission where
  frameClass : FrameClass
  header : Header
  payload : List Word
  deriving DecidableEq, Repr

/-- A reply made and not yet begun (R54, R55): the request's header, the answering block's code and words, and the bit
times since the request's frame end. -/
structure PendingReply where
  request : Header
  code : ReplyCode
  words : List Word
  waited : Nat
  deriving DecidableEq, Repr

/-- The time base (R163) and the bit times that have passed of the running microsecond (log 24). -/
structure TimeBase where
  micros : BitVec 32
  subMicro : Nat
  deriving DecidableEq, Repr

/-- What the line interface hands on at a frame end (R18): class, frame end time (in the time base, DESIGN CHOICE, log 34),
header, the two check results (R47) and the payload whose count came from the end delimiter (R4). -/
structure Delivery where
  frameClass : FrameClass
  frameEnd : TimeBase
  header : Header
  headerGood : Bool
  payload : List Word
  payloadGood : Bool
  deriving DecidableEq, Repr

/-! ### The station controller (chapter 2) -/

/-- Participation (Table 2.2). -/
inductive Participation where
  | offline | active | leaving | faulted
  deriving DecidableEq, Repr

/-- Sync (R29). -/
inductive Sync where
  | unsynced | synced
  deriving DecidableEq, Repr

/-- Reasons (Table 2.6). -/
inductive Reason where
  | none | join | heard | collision | silence | header | stuck | leave | drained | forced | duplicateStation
  | lineUnusable
  deriving DecidableEq, Repr

/-! ### The transmit scheduler (chapter 4) -/

/-- The owner of an exchange (R57). -/
inductive Owner where
  | announce
  | beacon
  | lane (l : Fin 8)
  deriving DecidableEq, Repr

/-- The phases of an open exchange (Table 4.2). -/
inductive Phase where
  | sending | awaiting | decided
  deriving DecidableEq, Repr

/-- The outcomes of an exchange (Table 4.3). -/
inductive ExchangeOutcome where
  | reply (code : ReplyCode) (words : List Word)
  | badReply
  | noReply
  | collision
  | sent
  | lineLost
  deriving DecidableEq, Repr

/-- The exchange record (R57). -/
structure ExchangeRecord where
  owner : Owner
  head : FrameHead
  sourceLane : Fin 8
  payloadCount : Nat
  expectsReply : Bool
  phase : Phase
  outcome : Option ExchangeOutcome
  lineLost : Bool
  deriving DecidableEq, Repr

/-! ### Lanes (chapter 5) -/

/-- Lane states (Table 5.2). -/
inductive LaneState where
  | idle | working | queued | exchange | held | waiting | reporting | cancelling
  deriving DecidableEq, Repr

/-- Descriptor statuses (Table 5.5). -/
inductive Status where
  | notStarted | inProgress | done | expired | stopped | offline | peerAbsent | busyExhausted | noAnswer | uncertain
  | refused | badDescriptor
  deriving DecidableEq, Repr

/-- Descriptor kinds (Table 5.4). -/
inductive DescriptorKind where
  | send | read | write | signal | wait | flag | note
  deriving DecidableEq, Repr

/-- Why a lane ended (R91). -/
inductive EndReason where
  | completed | stopped | failed | badDescriptor | badLink
  deriving DecidableEq, Repr

/-- What a WORKING lane is doing, and what a REPORTING lane goes on with (R92). -/
inductive LaneJob where
  /-- Nothing: the lane is in a state that needs no job. -/
  | none
  /-- The fetch: descriptor word `next` is the next to be read (R77). -/
  | fetch (next : Fin 8)
  /-- The fetch is over and IN PROGRESS is to be written to D7 (R77). -/
  | markInProgress
  /-- The payload read of a SEND segment or a WRITE: the words read so far (R80, R84). -/
  | readPayload (got : List Word)
  /-- The store of an accepted READ's words: the offset of the next word and the words still to store (R84). -/
  | storeRead (offset : Nat) (rest : List Word)
  /-- The final status is to be written: D6 first (R90). -/
  | writeProgress (status : Status)
  /-- D6 is written, D7 is next (R90). -/
  | writeStatus (status : Status)
  /-- A wait request has been handed to the flag unit and not yet taken (R87). -/
  | waitRequest
  /-- A set or clear request has been handed to the flag unit and not yet taken (R88). -/
  | flagRequest
  /-- A NOTE event has been posted: DONE is written after its take (R89). -/
  | afterNote
  /-- A DESCRIPTOR DONE has been posted for this status: the paths of R91 follow its take. -/
  | afterDone (status : Status)
  /-- A LANE ENDED has been posted: the lane becomes IDLE at its take (R91). -/
  | afterEnded
  deriving DecidableEq, Repr

/-! ### Events (chapter 10) -/

/-- Event kinds that are queued (Table 10.2, codes 1..8). -/
inductive EventKind where
  | descriptorDone | laneEnded | note | receiveDone | windowWritten | signalled | presenceChanged | lineState
  deriving DecidableEq, Repr

/-- The content a source supplies, E0 to E4 (R150). -/
structure Event where
  kind : EventKind
  unit : Nat
  peer : Nat
  status : Nat
  length : Word
  address : Word
  extra : Word
  deriving DecidableEq, Repr

/-- An entry of the event queue: the content with the timestamp and serial of its take (R150). -/
structure Entry where
  event : Event
  timestamp : BitVec 32
  serial : BitVec 16
  deriving DecidableEq, Repr

/-! ### Flags (chapter 6) -/

/-- A wait list entry (Table 6.1). -/
structure WaitEntry where
  lane : Fin 8
  consume : Bool
  deriving DecidableEq, Repr

/-! ### The receive unit (chapter 7) -/

/-- Receive statuses (Table 7.5). -/
inductive ReceiveStatus where
  | complete | cancelled | abandoned | superseded | gap | peerRestarted | peerAbsent | returned | closed | offline
  deriving DecidableEq, Repr

/-- A buffer entry (Table 7.2). -/
structure Buffer where
  address : Nat
  capacity : Nat
  deriving DecidableEq, Repr

/-- A completion entry (R109). -/
structure Completion where
  buffer : Nat
  status : ReceiveStatus
  length : Nat
  source : Option (Fin 32)
  message : Option (BitVec 8)
  deriving DecidableEq, Repr

/-- An open context (Table 7.3). -/
structure Context where
  source : Fin 32
  lane : Fin 8
  epoch : BitVec 4
  port : Fin 16
  message : BitVec 8
  length : Nat
  next : Nat
  buffer : Buffer
  stored : Nat
  age : Nat
  deriving DecidableEq, Repr

/-- A valid stream record (R116). -/
structure StreamRecord where
  epoch : BitVec 4
  lastCompleted : BitVec 8
  deriving DecidableEq, Repr

/-! ### Claims at the buffer memory controller (R159, R160) -/

/-- What a block does once the last word of its store has been served. -/
inductive StoreEnd where
  /-- The receive unit (R119, R121): `context` is the context of `entry` after the segment; with `opens` the segment is
  the first of a new message, which takes the head buffer of its port. -/
  | segment (entry : Fin 12) (context : Context) (opens : Bool)
  /-- The window unit (R134): a WRITE from `source` to `window`. -/
  | window (window : Fin 8) (source : Fin 32)
  deriving DecidableEq, Repr

/-- The word accesses that are left of a line-side take. -/
inductive LineWork where
  /-- The words still to store and what follows the last of them (R119, R134). -/
  | store (rest : List Word) (done : StoreEnd)
  /-- The number of words still to fetch and the words fetched so far (R135). -/
  | fetch (left : Nat) (got : List Word)
  deriving DecidableEq, Repr

/-- A line-side take in progress (R160, R161): the address of its next word, the accesses left, and whether its claim
for the next word is waiting at the controller. -/
structure LineTake where
  address : Nat
  work : LineWork
  claimed : Bool
  deriving DecidableEq, Repr

/-- A host claim (R159): a write or a read of one word. `driven` is false for a read whose strobe has ended before its
service. -/
inductive HostClaim where
  | write (address : BitVec 15) (value : Word)
  | read (address : BitVec 15) (driven : Bool)
  deriving DecidableEq, Repr

/-! ### Presence (chapter 9) -/

/-- The state of a presence record (Table 9.1). -/
inductive Presence where
  | unknown | present | absent
  deriving DecidableEq, Repr

/-! ### The command slot (chapter 11) -/

/-- The owner of the command slot (R165). -/
inductive SlotOwner where
  | host | station
  deriving DecidableEq, Repr

/-- Command results (Table 11.4). -/
inductive CommandResult where
  | ok | unknownCommand | badParameter | wrongState | laneBusy | notRunning | portFull | strapError
  deriving DecidableEq, Repr

end Sys2Proof.Machine
end

