-- ==== Sys2Proof/Machine/State.lean ====
section
/-! DEFINITION. The state of the part, block by block (00_scope.md Table 0.1), its value at reset, and the reasons a
step can stop. Every field is plain data. INVENTORY.md lists each with its rule and reset value. -/

namespace Sys2Proof.Machine

/-- Why the machine stops with a fault. -/
inductive Fault where
  /-- A lane, the receive unit or the window unit would access a word outside buffer memory (addresses 0..16383,
  00_scope.md 3.1). The book's validation keeps every access inside (R78, R111, R131, R133), so only a state that no run
  reaches raises it: LANE_WORD_ACCESS and FRAME_DELIVERY. Safe (log 22). -/
  | addressOutsideMemory
  deriving DecidableEq, Repr

/-- Why the machine refuses a command. -/
inductive Refusal where
  /-- Raised by an arm of exec for a command with no meaning yet: none in this model. Safe. -/
  | notModelled (mnemonic : String)
  deriving DecidableEq, Repr

/-- The line interface and line monitor (chapter 1). -/
structure LineInterface where
  /-- The line activity state (R15). -/
  activity : LineActivity
  /-- The frame of RECEIVING or SENDING has reached its frame end; the line is not yet IDLE (Table 1.4, log 12). -/
  frameOver : Bool
  /-- The activity mark (R9). -/
  activityMark : Bool
  /-- The slot phase (R9). -/
  slotPhase : Option Nat
  /-- Slot counting (R9). -/
  slots : SlotCount
  /-- Bit times of idle since the last activity, up to R; none while no activity is known since reset (R8, R19). -/
  idleTime : Option Nat
  /-- Bit times since the latest contention-class frame end, none once more than R have passed (R7). -/
  gap : Option Nat
  /-- The class of the frame being taken in (R7). -/
  rxClass : FrameClass
  /-- The frame being driven (R6). -/
  tx : Option Transmission
  /-- Bit times of the frame or jam driven so far (R5, R6). -/
  txTime : Nat
  /-- The reply that is owed and has not begun (R54). -/
  reply : Option PendingReply
  /-- The run count of the line monitor (R16). -/
  runTime : Nat
  /-- The stuck condition (R16). -/
  stuck : Bool
  /-- The sticky cause LINE FAULT (R17). -/
  lineFault : Bool
  deriving DecidableEq, Repr

/-- The station controller (Table 2.1) with the sampled straps (R20). -/
structure StationController where
  number : Fin 32
  count : Nat
  rate : Fin 4
  participation : Participation
  sync : Sync
  last : Option (Fin 32)
  epoch : BitVec 4
  badHeaders : Nat
  ownCollisions : Nat
  silence : Option Nat
  beacon : Option Nat
  reason : Reason
  lineStatePending : Bool
  deriving DecidableEq, Repr

/-- The transmit scheduler (Table 4.1). -/
structure Scheduler where
  rotation : Fin 8
  reoffer : Option (Fin 8)
  pendingAnnounce : Bool
  beaconDue : Bool
  exchange : Option ExchangeRecord
  deriving DecidableEq, Repr

/-- One lane (Table 5.1), with the marks that the rules of chapter 5 imply (log 31). -/
structure Lane where
  state : LaneState
  job : LaneJob
  address : Nat
  copy : Vector Word 8
  messageCounter : BitVec 8
  messageNumber : BitVec 8
  segment : Nat
  patience : Nat
  retries : Nat
  unanswered : Bool
  lastReply : Option ReplyCode
  frame : Option PreparedFrame
  hold : Option Nat
  wait : Option Nat
  stopMark : Bool
  cancelOwed : Bool
  pendingStatus : Option Status
  heldEvent : Option Event
  /-- Line work in progress (R26). -/
  lineWork : Bool
  /-- The descriptor has passed validation (R78, R91). -/
  validated : Bool
  /-- An expiry has been handed to the flag unit and not yet taken (R102). -/
  expiryHanded : Bool
  /-- A removal has been handed to the flag unit and not yet taken (R103). -/
  removalHanded : Bool
  deriving DecidableEq, Repr

/-- The flag unit (Table 6.1). Sets of flags are 32-bit words: bit f names flag f. -/
structure FlagUnit where
  flags : BitVec 32
  lists : Vector (List WaitEntry) 32
  accept : BitVec 32
  notify : BitVec 32
  signalled : BitVec 32
  deriving DecidableEq, Repr

/-- One port (Table 7.2). -/
structure Port where
  isOpen : Bool
  posted : List Buffer
  completions : List Completion
  deriving DecidableEq, Repr

/-- The receive unit (chapter 7). -/
structure ReceiveUnit where
  ports : Vector Port 16
  contexts : Vector (Option Context) 12
  streams : Vector (Vector (Option StreamRecord) 8) 32
  deriving DecidableEq, Repr

/-- One window entry (Table 8.1). -/
structure Window where
  enabled : Bool
  base : Nat
  length : Nat
  readAllowed : Bool
  writeAllowed : Bool
  notify : Bool
  peers : BitVec 32
  updates : BitVec 16
  lastWriter : Option (Fin 32)
  pending : Nat
  deriving DecidableEq, Repr

/-- One presence record (Table 9.1); `heard` is the presence timer's count since the last heard frame end. -/
structure PresenceRecord where
  state : Presence
  epoch : Option (BitVec 4)
  heard : Option Nat
  deriving DecidableEq, Repr

/-- The presence table (Table 9.1). -/
structure PresenceTable where
  records : Vector PresenceRecord 32
  changed : BitVec 32
  deriving DecidableEq, Repr

/-- The event queue (Table 10.1). -/
structure EventQueue where
  entries : List Entry
  serial : BitVec 16
  pointer : Fin 35
  deriving DecidableEq, Repr

/-- The host port and command unit (R156, R157, R163, R165). -/
structure HostPort where
  owner : SlotOwner
  code : BitVec 8
  params : Vector Word 6
  result : CommandResult
  enableEvent : Bool
  enableLineFault : Bool
  enableCommandDone : Bool
  commandDone : Bool
  /-- The high-word latch (R163). -/
  latch : Word
  /-- The word that the part drives on HD0..HD15 (R159), if it drives one. -/
  dataOut : Option Word
  /-- The host claims that wait (R159), oldest first: the first is at the controller; a later one waits until those
  before it, abandoned, have been served. -/
  claims : List HostClaim
  deriving DecidableEq, Repr

/-- Buffer memory and its controller (R158, R160). `cells` lists the words that differ from what an unlisted address
reads as, addresses strictly rising. -/
structure BufferMemory where
  cells : List (Nat × Word)
  lanePointer : Fin 8
  /-- The line-side take in progress between two of its word accesses (R161). -/
  take : Option LineTake
  deriving DecidableEq, Repr

/-- The state of the part. -/
structure State where
  /-- Reset is held: supply has been applied or RSTN asserted, and reset is not yet released (R19, R168). -/
  resetHeld : Bool
  line : LineInterface
  ctl : StationController
  sched : Scheduler
  lanes : Vector Lane 8
  flags : FlagUnit
  recv : ReceiveUnit
  windows : Vector Window 8
  presence : PresenceTable
  queue : EventQueue
  host : HostPort
  mem : BufferMemory
  time : TimeBase
  /-- The commands waiting, first in, first out. -/
  pending : List Instr
  deriving DecidableEq, Repr

/-! ### Reset values -/

/-- The line interface at reset (R19). -/
def LineInterface.reset : LineInterface where
  activity := .disturbed
  frameOver := false
  activityMark := true
  slotPhase := none
  slots := .stopped
  idleTime := none
  gap := none
  rxClass := .contention
  tx := none
  txTime := 0
  reply := none
  runTime := 0
  stuck := false
  lineFault := false

/-- The station controller at power-on reset (Table 2.1). The straps hold no sample yet: DESIGN CHOICE 0, 1, 0 (log 2),
unsafe. -/
def StationController.reset : StationController where
  number := 0
  count := 1
  rate := 0
  participation := .offline
  sync := .unsynced
  last := none
  epoch := 0
  badHeaders := 0
  ownCollisions := 0
  silence := none
  beacon := none
  reason := .none
  lineStatePending := false

/-- The transmit scheduler at reset (Table 4.1). -/
def Scheduler.reset : Scheduler where
  rotation := 7
  reoffer := none
  pendingAnnounce := false
  beaconDue := false
  exchange := none

/-- A lane at reset (Table 5.1, R96). -/
def Lane.reset : Lane where
  state := .idle
  job := .none
  address := 0
  copy := Vector.replicate 8 0
  messageCounter := 0
  messageNumber := 0
  segment := 0
  patience := 0
  retries := 0
  unanswered := false
  lastReply := none
  frame := none
  hold := none
  wait := none
  stopMark := false
  cancelOwed := false
  pendingStatus := none
  heldEvent := none
  lineWork := false
  validated := false
  expiryHanded := false
  removalHanded := false

/-- The flag unit at reset (R97). -/
def FlagUnit.reset : FlagUnit where
  flags := 0
  lists := Vector.replicate 32 []
  accept := 0
  notify := 0
  signalled := 0

/-- The receive unit at reset (R109, R128). -/
def ReceiveUnit.reset : ReceiveUnit where
  ports := Vector.replicate 16 { isOpen := false, posted := [], completions := [] }
  contexts := Vector.replicate 12 none
  streams := Vector.replicate 32 (Vector.replicate 8 none)

/-- A window entry at reset (Table 8.1). -/
def Window.reset : Window where
  enabled := false
  base := 0
  length := 1
  readAllowed := false
  writeAllowed := false
  notify := false
  peers := 0
  updates := 0
  lastWriter := none
  pending := 0

/-- The presence table at reset (R140, R148). -/
def PresenceTable.reset : PresenceTable where
  records := Vector.replicate 32 { state := .unknown, epoch := none, heard := none }
  changed := 0

/-- The event queue at reset (R149): the pointer names the line-state source, position 34. -/
def EventQueue.reset : EventQueue where
  entries := []
  serial := 0
  pointer := 34

/-- The host port and command unit at reset (R168): no access is under way, so no data is driven (R159). -/
def HostPort.reset : HostPort where
  owner := .host
  code := 0
  params := Vector.replicate 6 0
  result := .ok
  enableEvent := false
  enableLineFault := false
  enableCommandDone := false
  commandDone := false
  latch := 0
  dataOut := none
  claims := []

/-- Buffer memory after power-on: undefined contents (R168), nothing listed (log 3); the lane pointer is 7 and the
controller holds no claim (R160). -/
def BufferMemory.reset : BufferMemory where
  cells := []
  lanePointer := 7
  take := none

/-- The time base at reset (R163). -/
def TimeBase.reset : TimeBase where
  micros := 0
  subMicro := 0

/-- The machine right after power-on reset, reset not yet released (R19, R21, R168; log 1). -/
def State.reset : State where
  resetHeld := true
  line := LineInterface.reset
  ctl := StationController.reset
  sched := Scheduler.reset
  lanes := Vector.replicate 8 Lane.reset
  flags := FlagUnit.reset
  recv := ReceiveUnit.reset
  windows := Vector.replicate 8 Window.reset
  presence := PresenceTable.reset
  queue := EventQueue.reset
  host := HostPort.reset
  mem := BufferMemory.reset
  time := TimeBase.reset
  pending := []

end Sys2Proof.Machine
end

