-- ==== Sys2Proof/Machine/Layout.lean ====
section
/-! DEFINITION. The numeric codes of the named things and their places in words: frames (R169), descriptors (R171),
event entries (R172) and the control page (R173). -/

namespace Sys2Proof.Machine

/-- The field of `w` that occupies `width` bits from bit `low` up, as a plain unsigned number (R169, R171). -/
def field (w : Word) (low width : Nat) : Nat := w.toNat / 2 ^ low % 2 ^ width

/-- Bit `k` of a mask word (R173: bit k names the k-th member counted from the lowest). -/
def bit (w : Word) (k : Nat) : Bool := w.getLsbD k

/-- A 32-bit set from the words of its low and high halves (R104, R105, R131). -/
def mask32 (low high : Word) : BitVec 32 := high ++ low

/-- The low word of a 32-bit value. -/
def low16 (v : BitVec 32) : Word := v.setWidth 16

/-- The high word of a 32-bit value. -/
def high16 (v : BitVec 32) : Word := (v >>> 16).setWidth 16

/-- The one-member set of `n`. -/
def member (n : Fin 32) : BitVec 32 := BitVec.twoPow 32 n.val

/-! ### Codes -/

/-- Table 3.3. -/
def FrameKind.code : FrameKind → Nat
  | .announce => 1 | .beacon => 2 | .data => 3 | .cancel => 4 | .read => 5 | .write => 6 | .signal => 7 | .reply => 8

/-- Table 3.3; codes 0 and 9..15 are unknown kinds (R44). -/
def FrameKind.ofCode : Nat → Option FrameKind
  | 1 => some .announce | 2 => some .beacon | 3 => some .data | 4 => some .cancel | 5 => some .read
  | 6 => some .write | 7 => some .signal | 8 => some .reply | _ => none

/-- Table 3.6. -/
def ReplyCode.code : ReplyCode → Nat
  | .accepted => 0 | .busyNoBuffer => 1 | .busyNoContext => 2 | .busyPending => 3 | .refusedClosed => 4
  | .refusedLength => 5 | .refusedStray => 6 | .refusedWindow => 7 | .refusedBounds => 8 | .refusedDenied => 9
  | .refusedMasked => 10 | .checkError => 11 | .refusedMalformed => 12

/-- Table 3.6; codes 13 to 15 are not sent (R53). -/
def ReplyCode.ofCode : Nat → Option ReplyCode
  | 0 => some .accepted | 1 => some .busyNoBuffer | 2 => some .busyNoContext | 3 => some .busyPending
  | 4 => some .refusedClosed | 5 => some .refusedLength | 6 => some .refusedStray | 7 => some .refusedWindow
  | 8 => some .refusedBounds | 9 => some .refusedDenied | 10 => some .refusedMasked | 11 => some .checkError
  | 12 => some .refusedMalformed | _ => none

/-- Table 2.5. -/
def Participation.code : Participation → Nat
  | .offline => 0 | .active => 1 | .leaving => 2 | .faulted => 3

/-- Table 2.5. -/
def Sync.code : Sync → Nat
  | .unsynced => 0 | .synced => 1

/-- Table 2.5: a station number, or 63 for NONE. -/
def stationCode : Option (Fin 32) → Nat
  | some p => p.val
  | none => 63

/-- Table 2.6. -/
def Reason.code : Reason → Nat
  | .none => 0 | .join => 1 | .heard => 2 | .collision => 3 | .silence => 4 | .header => 5 | .stuck => 6 | .leave => 7
  | .drained => 8 | .forced => 9 | .duplicateStation => 10 | .lineUnusable => 11

/-- Table 5.5. -/
def Status.code : Status → Nat
  | .notStarted => 0 | .inProgress => 1 | .done => 2 | .expired => 3 | .stopped => 4 | .offline => 5 | .peerAbsent => 6
  | .busyExhausted => 7 | .noAnswer => 8 | .uncertain => 9 | .refused => 10 | .badDescriptor => 11

/-- Table 5.4; codes 0 and 8..15 are unknown kinds. -/
def DescriptorKind.ofCode : Nat → Option DescriptorKind
  | 1 => some .send | 2 => some .read | 3 => some .write | 4 => some .signal | 5 => some .wait | 6 => some .flag
  | 7 => some .note | _ => none

/-- R91. -/
def EndReason.code : EndReason → Nat
  | .completed => 0 | .stopped => 1 | .failed => 2 | .badDescriptor => 3 | .badLink => 4

/-- Table 10.2. -/
def EventKind.code : EventKind → Nat
  | .descriptorDone => 1 | .laneEnded => 2 | .note => 3 | .receiveDone => 4 | .windowWritten => 5 | .signalled => 6
  | .presenceChanged => 7 | .lineState => 8

/-- Table 7.5. -/
def ReceiveStatus.code : ReceiveStatus → Nat
  | .complete => 0 | .cancelled => 1 | .abandoned => 2 | .superseded => 3 | .gap => 4 | .peerRestarted => 5
  | .peerAbsent => 6 | .returned => 7 | .closed => 8 | .offline => 9

/-- Table 11.4. -/
def CommandResult.code : CommandResult → Nat
  | .ok => 0 | .unknownCommand => 1 | .badParameter => 2 | .wrongState => 3 | .laneBusy => 4 | .notRunning => 5
  | .portFull => 6 | .strapError => 7

/-! ### Frame headers (Table 12.1) -/

/-- The kind a header names, if it is a known one. -/
def Header.kind (h : Header) : Option FrameKind := FrameKind.ofCode (field h.h0 12 4)
/-- The source field. -/
def Header.source (h : Header) : Fin 32 := Fin.ofNat 32 (field h.h0 7 5)
/-- The source lane field. -/
def Header.sourceLane (h : Header) : Fin 8 := Fin.ofNat 8 (field h.h0 4 3)
/-- The epoch field. -/
def Header.epoch (h : Header) : BitVec 4 := BitVec.ofNat 4 (field h.h0 0 4)
/-- The destination field. -/
def Header.destination (h : Header) : Fin 32 := Fin.ofNat 32 (field h.h1 11 5)
/-- The all field. -/
def Header.all (h : Header) : Bool := field h.h1 10 1 == 1
/-- The selector field. -/
def Header.selector (h : Header) : Fin 32 := Fin.ofNat 32 (field h.h1 0 5)
/-- DATA, CANCEL: the message number. -/
def Header.message (h : Header) : BitVec 8 := BitVec.ofNat 8 (field h.h2 8 8)
/-- DATA, CANCEL: the segment index. -/
def Header.index (h : Header) : Nat := field h.h2 0 6
/-- READ, WRITE: the window offset. -/
def Header.offset (h : Header) : Nat := field h.h2 0 14
/-- DATA: the message length, the field plus one (R45). -/
def Header.messageLength (h : Header) : Nat := field h.h3 0 11 + 1
/-- READ, WRITE: the word count, the field plus one (R45). -/
def Header.wordCount (h : Header) : Nat := field h.h3 0 4 + 1
/-- REPLY: the reply code field, 0..15. -/
def Header.replyCode (h : Header) : Nat := field h.h3 12 4
/-- REPLY: the payload count field, 0..31. -/
def Header.replyCount (h : Header) : Nat := field h.h3 0 5

/-- The header of a frame with these fields, every spare bit 0 (R43, R62, R169). -/
def Header.build (head : FrameHead) (source : Fin 32) (lane : Fin 8) (epoch : BitVec 4) : Header where
  h0 := BitVec.ofNat 16 (head.kind.code * 4096 + source.val * 128 + lane.val * 16 + epoch.toNat)
  h1 := BitVec.ofNat 16 (head.destination.val * 2048 + (if head.all then 1024 else 0) + head.selector.val)
  h2 := head.h2
  h3 := head.h3

/-- H2 of a DATA or CANCEL frame (Table 12.1). -/
def segmentWord (message : BitVec 8) (index : Nat) : Word := BitVec.ofNat 16 (message.toNat * 256 + index % 64)

/-- H3 of a DATA frame for a message of `length` words: the length minus one in bits 10..0. -/
def lengthWord (length : Nat) : Word := BitVec.ofNat 16 ((length - 1) % 2048)

/-- H3 of a READ or WRITE for `count` words: the count minus one in bits 3..0. -/
def countWord (count : Nat) : Word := BitVec.ofNat 16 ((count - 1) % 16)

/-- H3 of a REPLY: reply code and payload count (Table 12.1). -/
def replyWord (code : ReplyCode) (count : Nat) : Word := BitVec.ofNat 16 (code.code * 4096 + count % 32)

/-! ### Descriptors (Table 12.3), read from a lane's copy -/

/-- The descriptor kind, if it is a known one. -/
def Lane.kind (l : Lane) : Option DescriptorKind := DescriptorKind.ofCode (field l.copy[0] 12 4)
/-- D0 notify. -/
def Lane.notify (l : Lane) : Bool := bit l.copy[0] 2
/-- D0 continue-on-failure. -/
def Lane.continueOnFailure (l : Lane) : Bool := bit l.copy[0] 1
/-- D0 stop-after. -/
def Lane.stopAfter (l : Lane) : Bool := bit l.copy[0] 0
/-- D1: the next address. -/
def Lane.next (l : Lane) : Nat := l.copy[1].toNat
/-- D2 of SEND, READ, WRITE, SIGNAL: the destination. -/
def Lane.destination (l : Lane) : Fin 32 := Fin.ofNat 32 (field l.copy[2] 11 5)
/-- D2 of SEND: the port. -/
def Lane.port (l : Lane) : Nat := field l.copy[2] 7 4
/-- D2 of SEND: the patience. -/
def Lane.patienceField (l : Lane) : Nat := field l.copy[2] 3 4
/-- D2 of READ, WRITE: the window. -/
def Lane.window (l : Lane) : Nat := field l.copy[2] 6 5
/-- D2 of SIGNAL: all. -/
def Lane.all (l : Lane) : Bool := bit l.copy[2] 10
/-- D2 of SIGNAL, WAIT, FLAG: the flag. -/
def Lane.flag (l : Lane) : Fin 32 := Fin.ofNat 32 (field l.copy[2] 0 5)
/-- D2 of WAIT: consume. -/
def Lane.consume (l : Lane) : Bool := bit l.copy[2] 15
/-- D2 of FLAG: set (1) or clear (0). -/
def Lane.setsFlag (l : Lane) : Bool := bit l.copy[2] 15
/-- D2 of NOTE: the tag. -/
def Lane.tag (l : Lane) : Word := l.copy[2]
/-- D3: the buffer address of a SEND, the local address of a READ or WRITE. -/
def Lane.bufferAddress (l : Lane) : Nat := l.copy[3].toNat
/-- D3 of WAIT: the time limit in microseconds, 0 for none. -/
def Lane.timeLimit (l : Lane) : Nat := l.copy[3].toNat
/-- D4: the length of a SEND, the count of a READ or WRITE. -/
def Lane.length (l : Lane) : Nat := l.copy[4].toNat
/-- D4 of WAIT: the alternate link. -/
def Lane.alternate (l : Lane) : Nat := l.copy[4].toNat
/-- D5 of READ, WRITE: the remote offset, bits 13..0. -/
def Lane.remoteOffset (l : Lane) : Nat := field l.copy[5] 0 14

/-- The reply code as written in D6: 15 for NONE (R90). -/
def replyCodeField : Option ReplyCode → Nat
  | some c => c.code
  | none => 15

/-- D6 as written back: reply code in bits 15..12, bit 11 zero, progress in bits 10..0 (R171). -/
def progressWord (code : Option ReplyCode) (progress : Nat) : Word :=
  BitVec.ofNat 16 (replyCodeField code * 4096 + progress % 2048)

/-- D7 as written: the status as a plain number (R171). -/
def statusWord (s : Status) : Word := BitVec.ofNat 16 s.code

/-! ### Event entries (Table 12.4) -/

/-- E0: kind and unit. -/
def Event.word0 (e : Event) : Word := BitVec.ofNat 16 (e.kind.code * 4096 + e.unit % 32)
/-- E1: peer and status. -/
def Event.word1 (e : Event) : Word := BitVec.ofNat 16 (e.peer % 64 * 1024 + e.status % 256)

/-- The eight words E0 to E7 of an entry (R150, R172). -/
def Entry.words (e : Entry) : Vector Word 8 :=
  #v[e.event.word0, e.event.word1, e.event.length, e.event.address, e.event.extra, low16 e.timestamp,
    high16 e.timestamp, e.serial]

end Sys2Proof.Machine
end

