-- ==== Sys2Proof/Machine/LineCode.lean ====
section
/-! DEFINITION. How frames stand on the line: half-bits, delimiters and jam (R1, R3, R4, R170), check words
(00_scope.md 3.4, R42, R47), and the delivery a receiver makes of the words it takes (R4, R18).

The state holds no half-bits: the commands FRAME_DELIVERY and LINE_DISTURBANCE carry what `receive` makes of a run of
activity (log 30). -/

namespace Sys2Proof.Machine

/-! ### Half-bits -/

/-- The level of the pair from which of its wires is pulled (R1). -/
def Level.ofPulls (lna lnb : Bool) : Level :=
  match lna, lnb with
  | false, false => .released
  | true, false => .mark
  | false, true => .space
  | true, true => .contend

/-- LNA is pulled at this level (R1). -/
def Level.pullsA : Level → Bool
  | .mark | .contend => true
  | .released | .space => false

/-- LNB is pulled at this level (R1). -/
def Level.pullsB : Level → Bool
  | .space | .contend => true
  | .released | .mark => false

/-- The level of the shared line when two stations drive it: open-drain, a wire is low if either pulls it (R1). -/
def Level.meet (x y : Level) : Level := Level.ofPulls (x.pullsA || y.pullsA) (x.pullsB || y.pullsB)

/-- A half-bit in which either wire is pulled is active (R2). -/
def Level.active (x : Level) : Bool := x.pullsA || x.pullsB

/-- A read-back mismatch (R13): what is read differs from what is driven. -/
def readBackMismatch (driven read : Level) : Bool := driven != read

/-- The two half-bits of a bit (R1): 1 is MARK then SPACE, 0 is SPACE then MARK. -/
def bitHalves : Bool → List Level
  | true => [.mark, .space]
  | false => [.space, .mark]

/-- The bits of a word, most significant first (R1). -/
def wordBits (w : Word) : List Bool := (List.range 16).map fun k => w.getLsbD (15 - k)

/-- The half-bits of a word. -/
def wordHalves (w : Word) : List Level := (wordBits w).flatMap bitHalves

/-- The start delimiter: M M, M S, S S, S M, M M, S S, M S, S M (Table 12.2). -/
def startDelimiter : List Level :=
  [.mark, .mark, .mark, .space, .space, .space, .space, .mark, .mark, .mark, .space, .space, .mark, .space, .space, .mark]

/-- The end delimiter: M M, S S, M M, S S (Table 12.2). -/
def endDelimiter : List Level := [.mark, .mark, .space, .space, .mark, .mark, .space, .space]

/-- The jam: MARK held for 16 bit times (R5, Table 12.2). -/
def jam : List Level := List.replicate (2 * Config.jamLength) .mark

/-- The half-bits of a frame whose words between the delimiters are `words` (R42). -/
def frameHalfBits (words : List Word) : List Level := startDelimiter ++ words.flatMap wordHalves ++ endDelimiter

/-- The bit times of a frame with `n` words between its delimiters (R42). -/
def frameTime (n : Nat) : Nat := 8 + 16 * n + 4

/-- Read `n` data bits; none at a half-bit pair that is no data bit (R1). -/
def readBits : Nat → List Level → Option (List Bool × List Level)
  | 0, rest => some ([], rest)
  | n + 1, .mark :: .space :: rest => (readBits n rest).map fun r => (true :: r.1, r.2)
  | n + 1, .space :: .mark :: rest => (readBits n rest).map fun r => (false :: r.1, r.2)
  | _ + 1, _ => none

/-- The word of 16 bits, the first the most significant (R1). -/
def bitsWord (bits : List Bool) : Word := bits.foldl (fun w b => (w <<< 1) ||| (if b then 1 else 0)) 0

/-- Take words up to the end delimiter (R4): at each word boundary either the end delimiter followed by a released
half-bit, or a word of 16 data bits; anything else is a line disturbance. `fuel` bounds the number of words. -/
def takeWords : Nat → List Level → Option (List Word)
  | 0, _ => none
  | fuel + 1, levels =>
    if levels.take 8 = endDelimiter then
      if (levels.drop 8).head? = some .released then some [] else none
    else
      match readBits 16 levels with
      | some (bits, rest) => (takeWords fuel rest).map (bitsWord bits :: ·)
      | none => none

/-- What a receiver makes of the half-bits from the first active one (R3, R4, R14): the whole words of a frame, or
none for a line disturbance. -/
def receive (levels : List Level) : Option (List Word) :=
  if levels.take 16 = startDelimiter then takeWords (levels.length + 1) (levels.drop 16) else none

/-- The command that a run of activity driven by other stations gives once it is decided (R14, R18). -/
def runCommand (levels : List Level) : Instr :=
  match receive levels with
  | some words => .frameDelivery { words := words, pause := none }
  | none => .lineDisturbance

/-! ### Check words -/

/-- The CRC-16 with polynomial x^16 + x^12 + x^5 + 1 of these bits, from register value `c` (00_scope.md 3.4; log 11):
the register shifts by one a bit, and takes the polynomial where its top bit differs from the bit. -/
def crcBits (c : Word) : List Bool → Word
  | [] => c
  | b :: rest => if c.getLsbD 15 != b then crcBits ((c <<< 1) ^^^ 0x1021) rest else crcBits (c <<< 1) rest

/-- The check word over `words`: initial value all ones, bits in the order they are sent (00_scope.md 3.4). -/
def checkWord (words : List Word) : Word := crcBits 0xFFFF (words.flatMap wordBits)

/-- The four header words. -/
def Header.words (h : Header) : List Word := [h.h0, h.h1, h.h2, h.h3]

/-- The words of a frame between its delimiters (R42): header, header check word, and, when there is a payload,
the payload and its check word. -/
def frameWords (h : Header) (payload : List Word) : List Word :=
  h.words ++ [checkWord h.words] ++ (if payload.isEmpty then [] else payload ++ [checkWord payload])

/-! ### What the transmitter drives (R5, R6, R19) -/

/-- The half-bits of a frame being driven, in order: start delimiter, words, end delimiter (R6). -/
def Transmission.levels (t : Transmission) : List Level := frameHalfBits (frameWords t.header t.payload)

/-- The level driven on the pins LNA and LNB in half-bit `half` of the bit time that now begins: the next half-bits of the
own frame, MARK in a jam, and released otherwise: with no own frame, after its end delimiter, in the stuck condition and
while reset is held. -/
def LineInterface.drives (x : LineInterface) (half : Fin 2) : Level :=
  match x.activity with
  | .sending =>
    match x.tx with
    | some t => t.levels.getD (2 * x.txTime + half.val) .released
    | none => .released
  | .jamming => .mark
  | .idle | .receiving | .disturbed => .released

/-- LNA is pulled low in half-bit `half` (R1). -/
def LineInterface.lna (x : LineInterface) (half : Fin 2) : Bool := (x.drives half).pullsA

/-- LNB is pulled low in half-bit `half` (R1). -/
def LineInterface.lnb (x : LineInterface) (half : Fin 2) : Bool := (x.drives half).pullsB

/-! ### Deliveries -/

/-- Word `k` of `words`, 0 where there is none. -/
def wordAt (words : List Word) (k : Nat) : Word := words.getD k 0

/-- The delivery made at time `frameEnd` of the whole words taken between the delimiters (R4, R18, R47). That the frame end
time is given in the time base is the model's choice (log 34). With W words: W of 4 or less is a header check failure; 5 is
a frame without payload; 6 has payload count 0 and a payload check failure; 7 to 38 have W - 6 payload words and
a payload check word; above 38 the payload count is 32 with a payload check failure. -/
def delivery (frameClass : FrameClass) (frameEnd : TimeBase) (words : List Word) : Delivery :=
  let n := words.length
  let header : Header :=
    { h0 := wordAt words 0, h1 := wordAt words 1, h2 := wordAt words 2, h3 := wordAt words 3 }
  let body := words.drop 5
  { frameClass := frameClass
    frameEnd := frameEnd
    header := header
    headerGood := decide (5 ≤ n) && checkWord header.words == wordAt words 4
    payload := if n ≤ 6 then [] else if n ≤ 38 then body.take (n - 6) else body.take 32
    payloadGood :=
      if n ≤ 5 then true
      else if n = 6 then false
      else if n ≤ 38 then checkWord (body.take (n - 6)) == wordAt words (n - 1)
      else false }

end Sys2Proof.Machine
end

