-- ==== Sys2Proof/Machine/Ops.lean ====
section
/-! DEFINITION. The named operations that the meanings share: buffer memory, the parts of the state that come in
numbered copies, gating by reset, and the changes of sync. -/

namespace Sys2Proof.Machine

/-! ### Buffer memory (R158, R160) -/

/-- What a word of buffer memory that is not listed reads as. The contents after power-on are undefined (R168):
DESIGN CHOICE 0, unsafe (log 3). -/
def unlistedWord : Word := 0

/-- The word at address `a`. -/
def readCell : List (Nat × Word) → Nat → Word
  | [], _ => unlistedWord
  | (k, v) :: rest, a => if k = a then v else readCell rest a

/-- List `w` at address `a`, keeping addresses rising. -/
def insertCell (a : Nat) (w : Word) : List (Nat × Word) → List (Nat × Word)
  | [] => [(a, w)]
  | (k, v) :: rest => if a < k then (a, w) :: (k, v) :: rest else (k, v) :: insertCell a w rest

/-- Store `w` at address `a`, keeping addresses rising and listing no word that an unlisted address reads as. -/
def writeCell (a : Nat) (w : Word) (cells : List (Nat × Word)) : List (Nat × Word) :=
  let others := cells.filter fun c => c.1 != a
  if w = unlistedWord then others else insertCell a w others

/-- Store words at consecutive addresses from `a`, in order (R119, R134). -/
def writeCells (cells : List (Nat × Word)) (a : Nat) : List Word → List (Nat × Word)
  | [] => cells
  | w :: rest => writeCells (writeCell a w cells) (a + 1) rest

/-- The words at consecutive addresses from `a` (R135). -/
def readCells (cells : List (Nat × Word)) (a n : Nat) : List Word := (List.range n).map fun k => readCell cells (a + k)

/-- The word accesses that are left. -/
def LineWork.remaining : LineWork → Nat
  | .store rest _ => rest.length
  | .fetch left _ => left

/-- The words that a take in progress has still to access lie inside buffer memory. -/
def LineTake.inside (k : LineTake) : Bool := decide (k.address + k.work.remaining ≤ Config.memoryWords)

/-- The canonical form of buffer memory: addresses strictly rising and inside 0..16383, no entry equal to what an
unlisted address reads as, and a take in progress that stays inside. -/
def BufferMemory.wf (m : BufferMemory) : Bool :=
  decide (m.cells.Pairwise fun x y => x.1 < y.1) &&
    (m.cells.all fun c => decide (c.1 < Config.memoryWords) && c.2 != unlistedWord) && m.take.all LineTake.inside

/-- The word of buffer memory at address `a`. -/
def State.word (s : State) (a : Nat) : Word := readCell s.mem.cells a

/-- Read one word; an address outside buffer memory faults (log 22). -/
def State.readWord (s : State) (a : Nat) : Except Fault Word :=
  if a < Config.memoryWords then .ok (s.word a) else .error .addressOutsideMemory

/-- Store one word; an address outside buffer memory faults (log 22). -/
def State.writeWord (s : State) (a : Nat) (w : Word) : Except Fault State :=
  if a < Config.memoryWords then .ok { s with mem := { s.mem with cells := writeCell a w s.mem.cells } }
  else .error .addressOutsideMemory

/-- A block begins the word accesses of its take, from address `a` up (R119, R134, R135, R161); an access outside buffer
memory faults (log 22). -/
def State.beginTake (s : State) (a : Nat) (work : LineWork) : Except Fault State :=
  if a + work.remaining ≤ Config.memoryWords then
    .ok { s with mem := { s.mem with take := some { address := a, work := work, claimed := false } } }
  else .error .addressOutsideMemory

/-- The claim of a line-side block is waiting at the controller (R160). -/
def BufferMemory.lineClaims (m : BufferMemory) : Bool := m.take.any fun k => k.claimed

/-- No line-side claim and no host claim is waiting: the controller serves a host claim as it arrives (R160). -/
def State.hostPathFree (s : State) : Bool := !s.mem.lineClaims && s.host.claims.isEmpty

/-! ### Numbered parts -/

/-- Replace lane `l`. -/
def State.setLane (s : State) (l : Fin 8) (x : Lane) : State := { s with lanes := s.lanes.set l.val x l.isLt }

/-- Change lane `l`. -/
def State.updateLane (s : State) (l : Fin 8) (f : Lane → Lane) : State := s.setLane l (f s.lanes[l])

/-- Change every lane by its number. -/
def State.mapLanes (s : State) (f : Fin 8 → Lane → Lane) : State :=
  { s with lanes := Vector.ofFn fun i => f i s.lanes[i] }

/-- Change port `p`. -/
def ReceiveUnit.updatePort (r : ReceiveUnit) (p : Fin 16) (f : Port → Port) : ReceiveUnit :=
  { r with ports := r.ports.set p.val (f r.ports[p]) p.isLt }

/-- Replace context table entry `i`. -/
def ReceiveUnit.setContext (r : ReceiveUnit) (i : Fin 12) (c : Option Context) : ReceiveUnit :=
  { r with contexts := r.contexts.set i.val c i.isLt }

/-- Change window `w`. -/
def State.updateWindow (s : State) (w : Fin 8) (f : Window → Window) : State :=
  { s with windows := s.windows.set w.val (f s.windows[w]) w.isLt }

/-- Change presence record `p`. -/
def PresenceTable.setRecord (t : PresenceTable) (p : Fin 32) (x : PresenceRecord) : PresenceTable :=
  { t with records := t.records.set p.val x p.isLt }

/-- Round-robin order (R59, R160): the lanes from the one after `p`, ending with `p`. -/
def roundRobin (p : Fin 8) : List (Fin 8) := (List.finRange 8).map fun k => p + 1 + k

/-! ### Timers -/

/-- A count that acts at `limit` stands one short of it until its command acts; it has reached its limit (log 5). -/
def reached (limit t : Nat) : Bool := decide (limit ≤ t + 1)

/-- A count that holds at `limit` once it has acted reaches it now (log 5). -/
def reaches (limit t : Nat) : Bool := decide (t < limit) && reached limit t

/-! ### Events and reset -/

/-- An event that reaches the part: while reset is held it has no effect (R19, R168; log 6). -/
def event (s : State) (f : State → State) : Host.Outcome State Fault Refusal :=
  .next (if s.resetHeld then s else f s)

/-- The same for an event that makes line-side or lane word accesses. -/
def eventWithAccess (s : State) (f : State → Except Fault State) : Host.Outcome State Fault Refusal :=
  if s.resetHeld then .next s
  else
    match f s with
    | .ok t => .next t
    | .error e => .fault e

/-! ### Participation and sync (R22, R29) -/

/-- The station is ACTIVE or LEAVING: deliveries and notices pass the station controller (Table 2.2). -/
def State.onLine (s : State) : Bool := s.ctl.participation == .active || s.ctl.participation == .leaving

/-- The station number as last may hold it: NONE for a number of N or more (R30, R31). -/
def StationController.known (c : StationController) (p : Fin 32) : Option (Fin 32) :=
  if p.val < c.count then some p else none

/-- Record a reason and set the line-state pending mark (R41). -/
def StationController.record (c : StationController) (r : Reason) : StationController :=
  { c with reason := r, lineStatePending := true }

/-- Become SYNCED with a reason, if UNSYNCED (R29). -/
def StationController.gainSync (c : StationController) (r : Reason) : StationController :=
  if c.sync = .unsynced then { c.record r with sync := .synced } else c

/-- Become UNSYNCED with a reason, if SYNCED (R29, R34). -/
def StationController.loseSync (c : StationController) (r : Reason) : StationController :=
  if c.sync = .synced then { c.record r with sync := .unsynced } else c

/-- The observed collision notice at the station controller (R33). -/
def StationController.observedCollision (c : StationController) : StationController :=
  { c.gainSync .collision with last := none }

/-- The straps are bad (R20). -/
def StationController.badStraps (c : StationController) : Bool := c.count == 1 || decide (c.count ≤ c.number.val)

/-- An active half-bit: the silence timer restarts from 0 (R38). -/
def StationController.activity (c : StationController) : StationController :=
  { c with silence := c.silence.map fun _ => 0 }

/-- The rank of the own station (R10). -/
def StationController.rank (c : StationController) : Nat :=
  match c.last with
  | some l => (((c.number.val : Int) - l.val - 1) % c.count).toNat
  | none => c.number.val

/-- The line is released for this station: it is IDLE, or a frame has reached its end and nothing has begun (R4,
Table 1.4; log 12). -/
def LineInterface.released (x : LineInterface) : Bool := x.activity == .idle || x.frameOver

end Sys2Proof.Machine
end

