-- ==== Sys2Proof/Machine/LaneSteps.lean ====
section
/-! DEFINITION. What a lane does by itself (chapter 5): validation, the start of a descriptor, the preparation of
frames, the outcomes of exchanges, stopping, line loss, reporting and the paths of R91. Each is a function of one lane;
the state's events are in Machine/Lanes.lean. -/

namespace Sys2Proof.Machine

/-! ### Segments (R46) -/

/-- The number of segments of a message of `l` words: l divided by 32 and rounded up. -/
def segmentCount (l : Nat) : Nat := (l + 31) / 32

/-- The payload count of segment `i` of a message of `l` words. -/
def segmentSize (l i : Nat) : Nat := if 32 * (i + 1) ≤ l then 32 else l - 32 * i

/-! ### Validation and start (R78, R79) -/

/-- The destination is N or more, or the own station number; with N = 1 there is no destination (R78). -/
def Lane.badDestination (l : Lane) (c : StationController) : Bool :=
  c.count == 1 || decide (c.count ≤ l.destination.val) || l.destination == c.number

/-- The descriptor copy is bad (R78). -/
def Lane.bad (l : Lane) (c : StationController) : Bool :=
  match l.kind with
  | none => true
  | some .send =>
    decide (l.length < 1) || decide (2048 < l.length) || decide (Config.memoryWords < l.bufferAddress + l.length) ||
      l.badDestination c
  | some .read | some .write =>
    decide (l.length < 1) || decide (16 < l.length) || decide (Config.memoryWords < l.bufferAddress + l.length) ||
      decide (7 < l.window) || l.badDestination c
  | some .signal => !l.all && l.badDestination c
  | some .wait => decide (Config.lastDescriptor < l.alternate)
  | some .flag | some .note => false

/-- The descriptor is a line descriptor: SEND, READ, WRITE or addressed SIGNAL (Table 0.6). -/
def Lane.lineDescriptor (l : Lane) : Bool :=
  match l.kind with
  | some .send | some .read | some .write => true
  | some .signal => !l.all
  | some .wait | some .flag | some .note | none => false

/-! ### Frames a lane prepares (R80, R83, R84, R85, R86) -/

/-- The DATA frame of the current segment, with its payload. -/
def Lane.dataFrame (l : Lane) (payload : List Word) : PreparedFrame where
  head :=
    { kind := .data, destination := l.destination, all := false, selector := Fin.ofNat 32 l.port,
      h2 := segmentWord l.messageNumber l.segment, h3 := lengthWord l.length }
  payload := payload

/-- The CANCEL for the current message (R83). -/
def Lane.cancelFrame (l : Lane) : PreparedFrame where
  head :=
    { kind := .cancel, destination := l.destination, all := false, selector := Fin.ofNat 32 l.port,
      h2 := segmentWord l.messageNumber 0, h3 := 0 }
  payload := []

/-- The READ or WRITE frame (R84). -/
def Lane.windowFrame (l : Lane) (kind : FrameKind) (payload : List Word) : PreparedFrame where
  head :=
    { kind := kind, destination := l.destination, all := false, selector := Fin.ofNat 32 l.window,
      h2 := BitVec.ofNat 16 l.remoteOffset, h3 := countWord l.length }
  payload := payload

/-- The SIGNAL frame: addressed (R85), or with destination 0 as a broadcast (R86). -/
def Lane.signalFrame (l : Lane) : PreparedFrame where
  head :=
    { kind := .signal, destination := if l.all then 0 else l.destination, all := l.all, selector := l.flag,
      h2 := 0, h3 := 0 }
  payload := []

/-! ### Moves -/

/-- Begin the writeback of a final status (R90); a prepared frame and a hold timer are given up. -/
def Lane.finish (l : Lane) (s : Status) : Lane :=
  { l with state := .working, job := .writeProgress s, frame := none, hold := none }

/-- Offer a prepared frame (R58). -/
def Lane.offer (l : Lane) (f : PreparedFrame) : Lane :=
  { l with state := .queued, job := .none, frame := some f, hold := none }

/-- Re-enter QUEUED with the same frame (R81, R82, R84). -/
def Lane.requeue (l : Lane) : Lane := { l with state := .queued, job := .none, hold := none }

/-- Owe a cancel with a pending status, and offer it (R83). -/
def Lane.oweCancel (l : Lane) (s : Status) : Lane :=
  { l with state := .cancelling, job := .none, cancelOwed := true, pendingStatus := some s,
           frame := some l.cancelFrame, hold := none }

/-- Act on a stop as a QUEUED lane does (R93): a SEND with segment index at least 1 owes a cancel, any other
descriptor writes STOPPED. -/
def Lane.stopWork (l : Lane) : Lane :=
  if l.kind = some .send ∧ 1 ≤ l.segment then l.oweCancel .stopped else l.finish .stopped

/-- Post an event and go on with `job` after its take (R92). -/
def Lane.post (l : Lane) (e : Event) (job : LaneJob) : Lane :=
  { l with state := .reporting, heldEvent := some e, job := job }

/-! ### Reporting and paths (R89, R91) -/

/-- The progress written back with status `s` (R90). -/
def Lane.progress (l : Lane) (s : Status) : Nat :=
  match l.kind with
  | some .send => if s = .badDescriptor then 0 else l.segment
  | some .read | some .write => if s = .done then l.length else 0
  | some .signal | some .wait | some .flag | some .note | none => 0

/-- The failure statuses (Table 5.5). -/
def Status.failure : Status → Bool
  | .stopped | .offline | .peerAbsent | .busyExhausted | .noAnswer | .uncertain | .refused | .badDescriptor => true
  | .notStarted | .inProgress | .done | .expired => false

/-- The DESCRIPTOR DONE event (R91). -/
def Lane.doneEvent (l : Lane) (i : Fin 8) (s : Status) : Event where
  kind := .descriptorDone
  unit := i.val
  peer := if l.validated && l.lineDescriptor then l.destination.val else 63
  status := s.code
  length := BitVec.ofNat 16 (l.progress s)
  address := BitVec.ofNat 16 l.address
  extra := BitVec.ofNat 16 (replyCodeField l.lastReply)

/-- The NOTE event (R89). -/
def Lane.noteEvent (l : Lane) (i : Fin 8) : Event where
  kind := .note
  unit := i.val
  peer := 63
  status := 0
  length := 0
  address := BitVec.ofNat 16 l.address
  extra := l.tag

/-- The LANE ENDED event (R91). -/
def Lane.endedEvent (l : Lane) (i : Fin 8) (r : EndReason) : Event where
  kind := .laneEnded
  unit := i.val
  peer := 0
  status := r.code
  length := 0
  address := BitVec.ofNat 16 l.address
  extra := 0

/-- End the chain: post LANE ENDED (R91). -/
def Lane.endChain (l : Lane) (i : Fin 8) (r : EndReason) : Lane := l.post (l.endedEvent i r) .afterEnded

/-- Begin the fetch of the descriptor at `a` (R76, R77): the copy to come has not passed validation. -/
def Lane.fetchAt (l : Lane) (a : Nat) : Lane :=
  { l with state := .working, address := a, job := .fetch 0, validated := false }

/-- Follow a link (R91). -/
def Lane.follow (l : Lane) (i : Fin 8) (link : Nat) : Lane :=
  if Config.lastDescriptor < link then l.endChain i .badLink else l.fetchAt link

/-- The first path of R91 that applies after status `s` has been written and reported. -/
def Lane.takePath (l : Lane) (i : Fin 8) (s : Status) : Lane :=
  if s = .badDescriptor then l.endChain i .badDescriptor
  else if l.stopMark then l.endChain i .stopped
  else if s.failure && !l.continueOnFailure then l.endChain i .failed
  else if l.stopAfter then l.endChain i .completed
  else if s = .expired then l.follow i l.alternate
  else l.follow i l.next

/-- DESCRIPTOR DONE is posted for this status (R91). -/
def Lane.reports (l : Lane) (s : Status) : Bool := s.failure || ((s == .done || s == .expired) && l.notify)

/-- The final status has been written: line work is over (R26, R90); report, then take the path (R91). -/
def Lane.statusWritten (l : Lane) (i : Fin 8) (s : Status) : Lane :=
  let m := { l with lineWork := false }
  if m.reports s then m.post (m.doneEvent i s) (.afterDone s) else m.takePath i s

/-- The held event has been taken: go on from the point at which it was posted (R92). -/
def Lane.eventTaken (l : Lane) (i : Fin 8) : Lane :=
  let m := { l with heldEvent := none, state := .working }
  match l.job with
  | .afterNote => m.finish .done
  | .afterDone s => m.takePath i s
  | .afterEnded => { m with state := .idle, job := .none, stopMark := false }
  | .none | .fetch _ | .markInProgress | .readPayload _ | .storeRead _ _ | .writeProgress _ | .writeStatus _
  | .waitRequest | .flagRequest => m

/-! ### Starting a descriptor (R79, R86 to R89) -/

/-- A line descriptor that passes the start check has line work in progress and three error retries (R26, R79). -/
def Lane.passStart (l : Lane) : Lane := { l with lineWork := true, retries := 3 }

/-- A SEND that passes the start check takes its message number and begins segment 0 (R79). -/
def Lane.startSend (l : Lane) : Lane :=
  { l.passStart with
    messageNumber := l.messageCounter
    messageCounter := l.messageCounter + 1
    segment := 0
    unanswered := false
    patience := l.patienceField
    job := .readPayload [] }

/-- Begin the work of a valid descriptor. `active`: participation is ACTIVE; `absent`: the destination's presence
record is ABSENT (R147). -/
def Lane.start (l : Lane) (i : Fin 8) (active absent : Bool) : Lane :=
  if l.lineDescriptor && !active then l.finish .offline
  else if l.lineDescriptor && absent then l.finish .peerAbsent
  else
    match l.kind with
    | some .send => l.startSend
    | some .read => l.passStart.offer (l.windowFrame .read [])
    | some .write => { l.passStart with job := .readPayload [] }
    | some .signal =>
      if l.all then { l with retries := 3 }.offer l.signalFrame else l.passStart.offer l.signalFrame
    | some .wait => { l with job := .waitRequest }
    | some .flag => { l with job := .flagRequest }
    | some .note => l.post (l.noteEvent i) .afterNote
    | none => l.finish .badDescriptor

/-- The fetch is over and IN PROGRESS is written (R77): the last reply code is NONE and the segment index 0; a stop
mark writes STOPPED (R94); otherwise the copy is judged (R78) and started. -/
def Lane.fetched (l : Lane) (i : Fin 8) (c : StationController) (absent : Bool) : Lane :=
  let m := { l with lastReply := none, segment := 0, validated := false }
  if m.stopMark then m.finish .stopped
  else if m.bad c then m.finish .badDescriptor
  else { m with validated := true }.start i (c.participation == Participation.active) absent

/-! ### The payload read (R80, R84) -/

/-- The words the payload read needs. -/
def Lane.payloadWanted (l : Lane) : Nat :=
  if l.kind = some .send then segmentSize l.length l.segment else l.length

/-- The address of the payload's first word. -/
def Lane.payloadBase (l : Lane) : Nat :=
  if l.kind = some .send then l.bufferAddress + 32 * l.segment else l.bufferAddress

/-- The payload has been read: a stop mark is acted on (R94), otherwise the frame is offered. -/
def Lane.payloadRead (l : Lane) (words : List Word) : Lane :=
  if l.stopMark then l.stopWork
  else if l.kind = some .send then l.offer (l.dataFrame words)
  else l.offer (l.windowFrame .write words)

/-! ### Outcomes of exchanges -/

/-- A SEND fails (R81): with segments accepted and a status of BUSY EXHAUSTED, NO ANSWER or REFUSED (`stray` false) it
owes a cancel, otherwise it writes the status at once. -/
def Lane.failSend (l : Lane) (s : Status) (stray : Bool) : Lane :=
  if 1 ≤ l.segment ∧ (s = .busyExhausted ∨ s = .noAnswer ∨ s = .refused) ∧ stray = false then l.oweCancel s
  else l.finish s

/-- A segment was accepted (R80): the index advances and the last reply code becomes 0. -/
def Lane.advance (l : Lane) : Lane := { l with segment := l.segment + 1, lastReply := some .accepted }

/-- The accepted segment was the last (R80): the index has come to the segment count. -/
def Lane.allSent (l : Lane) : Bool := decide (segmentCount l.length ≤ l.segment)

/-- Prepare the next segment with its own patience and error retries (R80). -/
def Lane.nextSegment (l : Lane) : Lane :=
  { l with state := .working, job := .readPayload [], frame := none, unanswered := false,
           patience := l.patienceField, retries := 3 }

/-- Spend an error retry on the same frame, or fail with `failed` when none is left. -/
def Lane.retry (l : Lane) (failed : Lane) : Lane :=
  if 0 < l.retries then { l with retries := l.retries - 1 }.requeue else failed

/-- A SEND without a stop mark takes the reply code of a segment's exchange (R80, R81, R82). -/
def Lane.sendReply (l : Lane) (code : ReplyCode) : Lane :=
  let m := { l with lastReply := some code }
  match code with
  | .accepted => if l.advance.allSent then l.advance.finish .done else l.advance.nextSegment
  | .busyNoBuffer | .busyNoContext | .busyPending =>
    if 0 < m.patience then
      { m with state := .held, job := .none, patience := m.patience - 1, hold := some 0 }
    else m.failSend .busyExhausted false
  | .checkError => m.retry (m.failSend .noAnswer false)
  | .refusedStray => if m.unanswered then m.failSend .uncertain true else m.failSend .refused true
  | .refusedClosed | .refusedLength | .refusedMalformed | .refusedWindow | .refusedBounds | .refusedDenied
  | .refusedMasked => m.failSend .refused false

/-- A SEND without a stop mark takes the outcome of a segment's exchange (R80, Table 5.6). -/
def Lane.sendOutcome (l : Lane) : ExchangeOutcome → Lane
  | .reply code _ => l.sendReply code
  | .noReply | .badReply =>
    let m := { l with unanswered := true }
    m.retry (m.failSend .noAnswer false)
  | .collision => l.requeue
  | .sent | .lineLost => l

/-- A SEND with its stop mark set (R94): the last segment's acceptance is applied, an earlier one advances the index,
nothing else is applied; then the lane acts as QUEUED does. -/
def Lane.sendOutcomeStopped (l : Lane) : ExchangeOutcome → Lane
  | .reply code _ =>
    if code = .accepted then (if l.advance.allSent then l.advance.finish .done else l.advance.stopWork) else l.stopWork
  | .noReply | .badReply | .collision | .sent | .lineLost => l.stopWork

/-- An accepted READ stores the words of the reply (R84). -/
def Lane.beginStore (l : Lane) (words : List Word) : Lane :=
  match words with
  | [] => l.finish .done
  | w :: rest => { l with state := .working, job := .storeRead 0 (w :: rest), frame := none }

/-- A READ, WRITE or addressed SIGNAL completes on ACCEPTED (R84, R85); a READ stores the count words of the reply. -/
def Lane.requestAccepted (l : Lane) (words : List Word) : Lane :=
  let m := { l with lastReply := some .accepted }
  if l.kind = some .read then m.beginStore (words.take l.length) else m.finish .done

/-- A READ, WRITE or addressed SIGNAL without a stop mark takes the reply to it (R84, R85). -/
def Lane.requestReply (l : Lane) (code : ReplyCode) (words : List Word) : Lane :=
  let m := { l with lastReply := some code }
  match code with
  | .accepted => l.requestAccepted words
  | .checkError => m.retry (m.finish .noAnswer)
  | .busyNoBuffer | .busyNoContext | .busyPending | .refusedClosed | .refusedLength | .refusedStray | .refusedWindow
  | .refusedBounds | .refusedDenied | .refusedMasked | .refusedMalformed => m.finish .refused

/-- A READ, WRITE or addressed SIGNAL without a stop mark takes its outcome (R84, R85). -/
def Lane.requestOutcome (l : Lane) : ExchangeOutcome → Lane
  | .reply code words => l.requestReply code words
  | .noReply | .badReply => l.retry (l.finish .noAnswer)
  | .collision => l.requeue
  | .sent | .lineLost => l

/-- A READ, WRITE or addressed SIGNAL with its stop mark set (R94): ACCEPTED completes it, anything else writes
STOPPED. -/
def Lane.requestOutcomeStopped (l : Lane) : ExchangeOutcome → Lane
  | .reply code words => if code = .accepted then l.requestAccepted words else l.finish .stopped
  | .noReply | .badReply | .collision | .sent | .lineLost => l.finish .stopped

/-- A broadcast SIGNAL takes its outcome (R86, R94). -/
def Lane.broadcastOutcome (l : Lane) (o : ExchangeOutcome) : Lane :=
  match o with
  | .sent => l.finish .done
  | .collision => if l.stopMark then l.finish .stopped else l.requeue
  | .noReply => if l.stopMark then l.finish .stopped else l.retry (l.finish .noAnswer)
  | .reply _ _ | .badReply | .lineLost => if l.stopMark then l.finish .stopped else l

/-- A cancel's exchange has ended (R83): a collision offers it again, any other outcome discharges it. -/
def Lane.cancelOutcome (l : Lane) (o : ExchangeOutcome) : Lane :=
  if o = .collision then { l with state := .cancelling, job := .none }
  else { l with cancelOwed := false, pendingStatus := none }.finish (l.pendingStatus.getD .stopped)

/-- The descriptor fails OFFLINE and sends no cancel (R70, R95). -/
def Lane.failOffline (l : Lane) : Lane := { l with cancelOwed := false, pendingStatus := none }.finish .offline

/-- The outcome handed to a lane at its exchange end (R69, R80 to R86, R94, R95). -/
def Lane.takeOutcome (l : Lane) (o : ExchangeOutcome) : Lane :=
  if o = .lineLost then l.failOffline
  else if l.cancelOwed then l.cancelOutcome o
  else
    match l.kind with
    | some .send => if l.stopMark then l.sendOutcomeStopped o else l.sendOutcome o
    | some .signal =>
      if l.all then l.broadcastOutcome o
      else if l.stopMark then l.requestOutcomeStopped o
      else l.requestOutcome o
    | some .read | some .write => if l.stopMark then l.requestOutcomeStopped o else l.requestOutcome o
    | some .wait | some .flag | some .note | none => l

/-! ### Participation (R95) -/

/-- Participation has become OFFLINE or FAULTED (Table of R95). -/
def Lane.lineLoss (l : Lane) : Lane :=
  if l.lineWork || l.cancelOwed then
    match l.state with
    | .queued | .cancelling | .held => l.failOffline
    | .working =>
      match l.job with
      | .readPayload _ => l.failOffline
      | .none | .fetch _ | .markInProgress | .storeRead _ _ | .writeProgress _ | .writeStatus _ | .waitRequest
      | .flagRequest | .afterNote | .afterDone _ | .afterEnded => l
    | .idle | .exchange | .waiting | .reporting => l
  else l

/-! ### Waits (R87, R99, R102, R103) -/

/-- The lane leaves its wait list: its wait timer stops, what it handed to the flag unit is dropped (log 18), and it
writes status `s`. -/
def Lane.leaveWait (l : Lane) (s : Status) : Lane :=
  { l with wait := none, expiryHanded := false, removalHanded := false }.finish s

/-- The lane is placed on a wait list (R101, R94). -/
def Lane.enterWait (l : Lane) : Lane :=
  { l with state := .waiting, job := .none, wait := if l.timeLimit = 0 then none else some 0,
           expiryHanded := false, removalHanded := l.stopMark }

/-! ### STOP LANE (R93) -/

/-- STOP LANE at a running lane. -/
def Lane.stop (l : Lane) : Lane :=
  let m := { l with stopMark := true }
  match l.state with
  | .waiting => { m with removalHanded := true }
  | .queued | .held => m.stopWork
  | .idle => l
  | .working | .exchange | .reporting | .cancelling => m

end Sys2Proof.Machine
end

