-- ==== Sys2Proof/Machine/Flags.lean ====
section
/-! DEFINITION. The flag unit (chapter 6): setting with releases (R99), clearing (R100), wait requests, expiries and
removals (R101 to R103), remote signals (R106). -/

namespace Sys2Proof.Machine

/-- Flag `f` is set. -/
def FlagUnit.isSet (u : FlagUnit) (f : Fin 32) : Bool := u.flags.getLsbD f.val

/-- The wait list entries that a set releases (R99): every entry without the consume mark and the first with it. -/
def releasedEntries (l : List WaitEntry) : List WaitEntry :=
  l.filter (fun e => !e.consume) ++ (l.filter (fun e => e.consume)).take 1

/-- The entries that stay on the list after a set (R99): the consuming entries after the released one, in order. -/
def remainingEntries (l : List WaitEntry) : List WaitEntry := (l.filter (fun e => e.consume)).drop 1

/-- A consuming entry is released (R99). -/
def releasesConsumer (l : List WaitEntry) : Bool := l.any (fun e => e.consume)

/-- Lane `i` is named by an entry of the list. -/
def onList (l : List WaitEntry) (i : Fin 8) : Bool := l.any (fun e => e.lane == i)

/-- The flag unit's side of setting flag `f` (R99). -/
def FlagUnit.set (u : FlagUnit) (f : Fin 32) : FlagUnit :=
  if u.isSet f then u
  else
    { u with
      flags := if releasesConsumer u.lists[f] then u.flags else u.flags ||| member f
      lists := u.lists.set f.val (remainingEntries u.lists[f]) f.isLt }

/-- The flag unit's side of clearing flag `f` (R100). -/
def FlagUnit.clear (u : FlagUnit) (f : Fin 32) : FlagUnit := { u with flags := u.flags &&& ~~~(member f) }

/-- Set flag `f` with its releases (R99): each released lane leaves WAITING and goes on to write DONE. -/
def State.setFlag (s : State) (f : Fin 32) : State :=
  if s.flags.isSet f then s
  else
    let released := releasedEntries s.flags.lists[f]
    { s with flags := s.flags.set f }.mapLanes fun i l => if onList released i then l.leaveWait .done else l

/-- Clear flag `f` (R100). -/
def State.clearFlag (s : State) (f : Fin 32) : State := { s with flags := s.flags.clear f }

/-- Set every flag that `mask` names (R104). -/
def State.setFlagMask (s : State) (mask : BitVec 32) : State :=
  (List.finRange 32).foldl (fun s f => if mask.getLsbD f.val then s.setFlag f else s) s

/-- Clear every flag that `mask` names (R104). -/
def State.clearFlagMask (s : State) (mask : BitVec 32) : State :=
  (List.finRange 32).foldl (fun s f => if mask.getLsbD f.val then s.clearFlag f else s) s

/-- Add an entry at the tail of the wait list of `f` (R101). -/
def FlagUnit.enqueue (u : FlagUnit) (f : Fin 32) (e : WaitEntry) : FlagUnit :=
  { u with lists := u.lists.set f.val (u.lists[f] ++ [e]) f.isLt }

/-- Take lane `i` off the wait list of `f`; the other entries keep their order (R102, R103). -/
def FlagUnit.remove (u : FlagUnit) (f : Fin 32) (i : Fin 8) : FlagUnit :=
  { u with lists := u.lists.set f.val (u.lists[f].filter fun e => e.lane != i) f.isLt }

/-- Lane `i` is on the wait list its descriptor names. -/
def State.onWaitList (s : State) (i : Fin 8) : Bool := onList s.flags.lists[s.lanes[i].flag] i

/-- Lane `i` leaves its wait list by an expiry or a removal and writes status `st` (R102, R103). -/
def State.leaveList (s : State) (i : Fin 8) (st : Status) : State :=
  { s with flags := s.flags.remove s.lanes[i].flag i }.updateLane i fun l => l.leaveWait st

/-- The flag unit takes a wait request of lane `i` (R101): satisfied at once when the flag is set, cleared with
consume; otherwise the lane joins the list. -/
def State.takeWaitRequest (s : State) (i : Fin 8) : State :=
  let l := s.lanes[i]
  if l.state = .working ∧ l.job = .waitRequest then
    if s.flags.isSet l.flag then
      (if l.consume then s.clearFlag l.flag else s).updateLane i fun l => l.finish .done
    else
      { s with flags := s.flags.enqueue l.flag { lane := i, consume := l.consume } }.updateLane i Lane.enterWait
  else s

/-- The flag unit takes a FLAG request of lane `i` (R88). -/
def State.takeFlagRequest (s : State) (i : Fin 8) : State :=
  let l := s.lanes[i]
  if l.state = .working ∧ l.job = .flagRequest then
    (if l.setsFlag then s.setFlag l.flag else s.clearFlag l.flag).updateLane i fun l => l.finish .done
  else s

/-- The wait timer of lane `i` reaches its limit (R102): it stops and an expiry is handed to the flag unit. -/
def State.waitTimerExpires (s : State) (i : Fin 8) : State :=
  let l := s.lanes[i]
  if l.state = .waiting ∧ l.wait.any (reached l.timeLimit) then
    s.updateLane i fun l => { l with wait := none, expiryHanded := true }
  else s

/-- The flag unit takes an expiry of lane `i` (R102): dropped unless the lane is still on its list. -/
def State.takeExpiry (s : State) (i : Fin 8) : State :=
  if s.lanes[i].expiryHanded then
    if s.onWaitList i then s.leaveList i .expired
    else s.updateLane i fun l => { l with expiryHanded := false }
  else s

/-- The flag unit takes a removal of lane `i` (R103): dropped unless the lane is still on its list. -/
def State.takeRemoval (s : State) (i : Fin 8) : State :=
  if s.lanes[i].removalHanded then
    if s.onWaitList i then s.leaveList i .stopped
    else s.updateLane i fun l => { l with removalHanded := false }
  else s

/-- A SIGNAL on flag `f` at the flag unit (R106, R107): the new state and the answer an addressed one gets. -/
def State.takeSignal (s : State) (f : Fin 32) : State × ReplyCode :=
  if s.flags.accept.getLsbD f.val then
    let t := s.setFlag f
    (if s.flags.notify.getLsbD f.val then
        { t with flags := { t.flags with signalled := t.flags.signalled ||| member f } }
      else t, .accepted)
  else (s, .refusedMasked)

/-- WAIT_REQUEST_TAKE (R101). -/
def execWaitRequestTake (i : Fin 8) (s : State) : Host.Outcome State Fault Refusal := event s fun s => s.takeWaitRequest i

/-- FLAG_REQUEST_TAKE (R88). -/
def execFlagRequestTake (i : Fin 8) (s : State) : Host.Outcome State Fault Refusal := event s fun s => s.takeFlagRequest i

/-- WAIT_TIMER_EXPIRY (R102). -/
def execWaitTimerExpiry (i : Fin 8) (s : State) : Host.Outcome State Fault Refusal :=
  event s fun s => s.waitTimerExpires i

/-- WAIT_EXPIRY_TAKE (R102). -/
def execWaitExpiryTake (i : Fin 8) (s : State) : Host.Outcome State Fault Refusal := event s fun s => s.takeExpiry i

/-- WAIT_REMOVAL_TAKE (R103). -/
def execWaitRemovalTake (i : Fin 8) (s : State) : Host.Outcome State Fault Refusal := event s fun s => s.takeRemoval i

end Sys2Proof.Machine
end

