-- ==== Sys2Proof/Machine/Queue.lean ====
section
/-! DEFINITION. The event queue (chapter 10): the 35 sources, the rotation arbiter, takes, fills and the pop; the
interrupt line. -/

namespace Sys2Proof.Machine

/-- A source of the event queue (Table 10.3). -/
inductive Source where
  | port (p : Fin 16)
  | lane (l : Fin 8)
  | window (w : Fin 8)
  | signalled
  | presence
  | lineState
  deriving DecidableEq, Repr

/-- The source at a position of Table 10.3. -/
def sourceAt (pos : Fin 35) : Source :=
  if h : pos.val < 16 then .port ⟨pos.val, h⟩
  else if h : pos.val - 16 < 8 then .lane ⟨pos.val - 16, h⟩
  else if h : pos.val - 24 < 8 then .window ⟨pos.val - 24, h⟩
  else if pos.val = 32 then .signalled
  else if pos.val = 33 then .presence
  else .lineState

/-- The source is pending (R151). -/
def State.sourcePending (s : State) : Source → Bool
  | .port p => !s.recv.ports[p].completions.isEmpty
  | .lane l => s.lanes[l].heldEvent.isSome
  | .window w => decide (0 < s.windows[w].pending)
  | .signalled => s.flags.signalled != 0
  | .presence => s.presence.changed != 0
  | .lineState => s.ctl.lineStatePending

/-! ### What each source reports -/

/-- RECEIVE DONE (R127). -/
def receiveDoneEvent (p : Fin 16) (c : Completion) : Event where
  kind := .receiveDone
  unit := p.val
  peer := stationCode c.source
  status := c.status.code
  length := BitVec.ofNat 16 c.length
  address := BitVec.ofNat 16 c.buffer
  extra :=
    match c.message with
    | some m => m.setWidth 16
    | none => 0

/-- WINDOW WRITTEN (R138). -/
def windowWrittenEvent (w : Fin 8) (x : Window) : Event where
  kind := .windowWritten
  unit := w.val
  peer := stationCode x.lastWriter
  status := 0
  length := BitVec.ofNat 16 x.pending
  address := BitVec.ofNat 16 x.base
  extra := x.updates

/-- SIGNALLED (R107) and PRESENCE CHANGED (R145) carry a set: members 0..15 in length, 16..31 in extra. -/
def setEvent (kind : EventKind) (set : BitVec 32) : Event where
  kind := kind
  unit := 0
  peer := 63
  status := 0
  length := low16 set
  address := 0
  extra := high16 set

/-- LINE STATE (R41, R151, R172): participation in status bits 1..0, sync in bit 2. -/
def lineStateEvent (c : StationController) : Event where
  kind := .lineState
  unit := 0
  peer := stationCode c.last
  status := c.participation.code + 4 * c.sync.code
  length := 0
  address := 0
  extra := BitVec.ofNat 16 c.reason.code

/-- The report a source gives at a take and the state with that report removed from it (R153); none when the source
is not pending. -/
def State.report (s : State) : Source → Option (Event × State)
  | .port p =>
    match s.recv.ports[p].completions with
    | [] => none
    | c :: rest =>
      some (receiveDoneEvent p c, { s with recv := s.recv.updatePort p fun x => { x with completions := rest } })
  | .lane l =>
    match s.lanes[l].heldEvent with
    | none => none
    | some e => some (e, s.updateLane l fun x => x.eventTaken l)
  | .window w =>
    if 0 < s.windows[w].pending then
      some (windowWrittenEvent w s.windows[w], s.updateWindow w fun x => { x with pending := 0 })
    else none
  | .signalled =>
    if s.flags.signalled = 0 then none
    else some (setEvent .signalled s.flags.signalled, { s with flags := { s.flags with signalled := 0 } })
  | .presence =>
    if s.presence.changed = 0 then none
    else
      some (setEvent .presenceChanged s.presence.changed, { s with presence := { s.presence with changed := 0 } })
  | .lineState =>
    if s.ctl.lineStatePending then
      some (lineStateEvent s.ctl, { s with ctl := { s.ctl with lineStatePending := false } })
    else none

/-! ### Takes and fills -/

/-- The positions in the order the arbiter examines them (R152): from the one after the pointer, ending with it. -/
def arbiterOrder (pointer : Fin 35) : List (Fin 35) := (List.finRange 35).map fun k => pointer + 1 + k

/-- The position the arbiter chooses (R152). -/
def State.nextSource (s : State) : Option (Fin 35) :=
  (arbiterOrder s.queue.pointer).find? fun pos => s.sourcePending (sourceAt pos)

/-- Add an entry for `e` at the tail, with the time base and the serial as they stand; the serial counter advances and
the pointer is set to the chosen position (R150, R152). -/
def State.enqueue (s : State) (pos : Fin 35) (e : Event) : State :=
  { s with
    queue :=
      { entries := s.queue.entries ++ [{ event := e, timestamp := s.time.micros, serial := s.queue.serial }]
        serial := s.queue.serial + 1
        pointer := pos } }

/-- One take (R153), if the queue has a free entry and a source is pending. -/
def State.take (s : State) : Option State :=
  if s.queue.entries.length < Config.queueSize then
    match s.nextSource with
    | none => none
    | some pos =>
      match s.report (sourceAt pos) with
      | none => none
      | some (e, t) => some (t.enqueue pos e)
  else none

/-- At most `n` takes. -/
def State.takes : Nat → State → State
  | 0, s => s
  | n + 1, s =>
    match s.take with
    | some t => State.takes n t
    | none => s

/-- The queue fills (R152): it takes until it is full or no source is pending. No fill can take more than the queue
holds. -/
def State.fill (s : State) : State := State.takes Config.queueSize s

/-- The pop (R155): the head entry leaves the queue and the queue fills; an empty queue is left as it is. -/
def State.acknowledge (s : State) : State :=
  match s.queue.entries with
  | [] => s
  | _ :: rest => { s with queue := { s.queue with entries := rest } }.fill

/-! ### The interrupt line and HRDY -/

/-- HINT is asserted (R156). -/
def State.hint (s : State) : Bool :=
  (!s.queue.entries.isEmpty && s.host.enableEvent) || (s.line.lineFault && s.host.enableLineFault) ||
    (s.host.commandDone && s.host.enableCommandDone)

/-- HRDY is high: no host access waits for its service (R159). While reset is held none does (R160, R168). -/
def State.hrdy (s : State) : Bool := s.host.claims.isEmpty

/-- The event queue takes one report, and fills (R152, R153): at the end of an event at the queue no source is pending
while an entry is free. -/
def State.takeAndFill (s : State) : State :=
  match s.take with
  | some t => t.fill
  | none => s

/-- QUEUE_TAKE (R153). -/
def execQueueTake (s : State) : Host.Outcome State Fault Refusal := event s State.takeAndFill

end Sys2Proof.Machine
end

