-- ==== Sys2Proof/Machine/Receive.lean ====
section
/-! DEFINITION. The receive unit (chapter 7): buffer accounting, abandonment, DATA and CANCEL arrivals, orders. -/

namespace Sys2Proof.Machine

/-! ### Ports and contexts -/

/-- The number of open contexts whose port is `p`. -/
def ReceiveUnit.openContexts (r : ReceiveUnit) (p : Fin 16) : Nat :=
  r.contexts.toList.countP fun c => c.any fun x => x.port == p

/-- The buffer count of port `p` (R110). -/
def ReceiveUnit.bufferCount (r : ReceiveUnit) (p : Fin 16) : Nat :=
  r.ports[p].posted.length + r.openContexts p + r.ports[p].completions.length

/-- Add a completion entry at the tail of port `p`'s completion list. -/
def ReceiveUnit.complete (r : ReceiveUnit) (p : Fin 16) (c : Completion) : ReceiveUnit :=
  r.updatePort p fun x => { x with completions := x.completions ++ [c] }

/-- The completion entry of a context that ends with status `st` after `length` words (R115, R119). -/
def Context.completion (c : Context) (st : ReceiveStatus) (length : Nat) : Completion where
  buffer := c.buffer.address
  status := st
  length := length
  source := some c.source
  message := some c.message

/-- Abandon the context in entry `i`, if one is open there (R115). -/
def ReceiveUnit.abandon (r : ReceiveUnit) (i : Fin 12) (st : ReceiveStatus) : ReceiveUnit :=
  match r.contexts[i] with
  | none => r
  | some c => (r.complete c.port (c.completion st c.stored)).setContext i none

/-- Abandon every open context that satisfies `p`, lowest entry first (R115). -/
def ReceiveUnit.abandonAll (r : ReceiveUnit) (st : ReceiveStatus) (p : Context → Bool) : ReceiveUnit :=
  (List.finRange 12).foldl
    (fun r i => if r.contexts[i].any p then r.abandon i st else r) r

/-- The stream record of a key (R116). -/
def ReceiveUnit.stream (r : ReceiveUnit) (source : Fin 32) (lane : Fin 8) : Option StreamRecord :=
  r.streams[source][lane]

/-- Set the stream record of a key valid (R116, R119). -/
def ReceiveUnit.setStream (r : ReceiveUnit) (source : Fin 32) (lane : Fin 8) (x : StreamRecord) : ReceiveUnit :=
  { r with streams := r.streams.set source.val (r.streams[source].set lane.val (some x) lane.isLt) source.isLt }

/-- Make the eight stream records of `p` invalid (R125). -/
def ReceiveUnit.clearStreams (r : ReceiveUnit) (p : Fin 32) : ReceiveUnit :=
  { r with streams := r.streams.set p.val (Vector.replicate 8 none) p.isLt }

/-- Make every stream record invalid (R126). -/
def ReceiveUnit.clearAllStreams (r : ReceiveUnit) : ReceiveUnit :=
  { r with streams := Vector.replicate 32 (Vector.replicate 8 none) }

/-- The entry whose open context has the key (R117). -/
def ReceiveUnit.findKey (r : ReceiveUnit) (source : Fin 32) (lane : Fin 8) : Option (Fin 12) :=
  (List.finRange 12).find? fun i => r.contexts[i].any fun c => c.source == source && c.lane == lane

/-- The lowest-numbered free entry (R114). -/
def ReceiveUnit.freeEntry (r : ReceiveUnit) : Option (Fin 12) :=
  (List.finRange 12).find? fun i => r.contexts[i].isNone

/-! ### Orders (R124, R125, R126) -/

/-- The absent order for `p` (R124). -/
def ReceiveUnit.absentOrder (r : ReceiveUnit) (p : Fin 32) : ReceiveUnit :=
  r.abandonAll .peerAbsent fun c => c.source == p

/-- The purge order for `p` (R125). -/
def ReceiveUnit.purgeOrder (r : ReceiveUnit) (p : Fin 32) : ReceiveUnit :=
  (r.abandonAll .peerRestarted fun c => c.source == p).clearStreams p

/-- Entry to FAULTED (R126): every context is abandoned, the stream records are kept. -/
def ReceiveUnit.faulted (r : ReceiveUnit) : ReceiveUnit := r.abandonAll .offline fun _ => true

/-- Entry to OFFLINE (R126): every context is abandoned and every stream record made invalid. -/
def ReceiveUnit.offline (r : ReceiveUnit) : ReceiveUnit := r.faulted.clearAllStreams

/-! ### DATA arrival (R117 to R121) -/

/-- The port a DATA or CANCEL names (0..15 after R50). -/
def Header.port (h : Header) : Fin 16 := Fin.ofNat 16 h.selector.val

/-- The stream record matches the frame (R116). -/
def ReceiveUnit.streamMatches (r : ReceiveUnit) (h : Header) : Bool :=
  match r.stream h.source h.sourceLane with
  | some x => x.epoch == h.epoch && x.lastCompleted == h.message
  | none => false

/-- The frame belongs to the context's message (R118). -/
def Context.sameMessage (c : Context) (h : Header) : Bool :=
  c.message == h.message && c.port == h.port && c.length == h.messageLength

/-- The context after the segment that was awaited has been stored (R119). -/
def Context.stored32 (c : Context) (payload : List Word) : Context :=
  { c with stored := c.stored + payload.length, next := c.next + 1, age := 0 }

/-- The context's bookkeeping after a store (R119): the last segment completes it, any other keeps it open. -/
def ReceiveUnit.afterStore (r : ReceiveUnit) (i : Fin 12) (c : Context) : ReceiveUnit :=
  if c.next = segmentCount c.length then
    ((r.complete c.port (c.completion .complete c.length)).setStream c.source c.lane
      { epoch := c.epoch, lastCompleted := c.message }).setContext i none
  else r.setContext i (some c)

/-- The head buffer of port `p` leaves its posted queue (R121). -/
def ReceiveUnit.takeHead (r : ReceiveUnit) (p : Fin 16) : ReceiveUnit :=
  r.updatePort p fun x => { x with posted := x.posted.tail }

/-- The store of a segment is complete (R119, R121): the state of the receive unit after the take. -/
def ReceiveUnit.segmentStored (r : ReceiveUnit) (i : Fin 12) (c : Context) (opens : Bool) : ReceiveUnit :=
  (if opens then r.takeHead c.port else r).afterStore i c

/-- Begin the store of the awaited segment of context `c`, which is in entry `i` or, with `opens`, is to be opened there
(R119, R121). -/
def State.storeSegment (s : State) (i : Fin 12) (c : Context) (payload : List Word) (opens : Bool) :
    Except Fault State :=
  s.beginTake (c.buffer.address + 32 * c.next) (.store payload (.segment i (c.stored32 payload) opens))

/-- The context a new message opens (R121). -/
def newContext (h : Header) (b : Buffer) : Context where
  source := h.source
  lane := h.sourceLane
  epoch := h.epoch
  port := h.port
  message := h.message
  length := h.messageLength
  next := 0
  buffer := b
  stored := 0
  age := 0

/-- A new message (R121). -/
def State.newMessage (s : State) (h : Header) (payload : List Word) : Except Fault (State × ReplyCode) :=
  let port := s.recv.ports[h.port]
  if !port.completions.isEmpty then .ok (s, .busyPending)
  else
    match port.posted with
    | [] => .ok (s, .busyNoBuffer)
    | b :: _ =>
      match s.recv.freeEntry with
      | none => .ok (s, .busyNoContext)
      | some i =>
        if b.capacity < h.messageLength then .ok (s, .refusedLength)
        else
          match s.storeSegment i (newContext h b) payload true with
          | .error e => .error e
          | .ok u => .ok (u, .accepted)

/-- No open context has the frame's key (R120). -/
def State.dataWithoutContext (s : State) (h : Header) (payload : List Word) : Except Fault (State × ReplyCode) :=
  if s.recv.streamMatches h then .ok (s, .accepted)
  else if 0 < h.index then .ok (s, .refusedStray)
  else s.newMessage h payload

/-- The open context in entry `i` has the frame's key (R118). -/
def State.dataWithContext (s : State) (i : Fin 12) (c : Context) (h : Header) (payload : List Word) :
    Except Fault (State × ReplyCode) :=
  if c.sameMessage h then
    if h.index < c.next then
      .ok ({ s with recv := s.recv.setContext i (some { c with age := 0 }) }, .accepted)
    else if h.index = c.next then
      match s.storeSegment i c payload false with
      | .error e => .error e
      | .ok t => .ok (t, .accepted)
    else .ok ({ s with recv := s.recv.abandon i .gap }, .refusedStray)
  else if h.index = 0 then { s with recv := s.recv.abandon i .superseded }.dataWithoutContext h payload
  else .ok (s, .refusedStray)

/-- A DATA frame at the receive unit (Table 7.4): the state and the answering code. -/
def State.dataArrival (s : State) (h : Header) (payload : List Word) (payloadFault : Bool) :
    Except Fault (State × ReplyCode) :=
  if payloadFault then .ok (s, .checkError)
  else if !s.recv.ports[h.port].isOpen then .ok (s, .refusedClosed)
  else
    match s.recv.findKey h.source h.sourceLane with
    | some i =>
      match s.recv.contexts[i] with
      | some c => s.dataWithContext i c h payload
      | none => s.dataWithoutContext h payload
    | none => s.dataWithoutContext h payload

/-- The open context a CANCEL names: its key, message number and port (R123). -/
def Context.cancelledBy (h : Header) (c : Context) : Bool :=
  c.source == h.source && c.lane == h.sourceLane && c.message == h.message && c.port == h.port

/-- A CANCEL at the receive unit (R123); it is answered ACCEPTED either way. -/
def ReceiveUnit.cancelArrival (r : ReceiveUnit) (h : Header) : ReceiveUnit :=
  match (List.finRange 12).find? fun i => r.contexts[i].any (Context.cancelledBy h) with
  | some i => r.abandon i .cancelled
  | none => r

end Sys2Proof.Machine
end

