-- ==== Sys2Proof/Machine/Windows.lean ====
section
/-! DEFINITION. The window unit (chapter 8): the judgement of remote READ and WRITE, the store, the fetch. -/

namespace Sys2Proof.Machine

/-- The window a READ or WRITE names (0..7 after R50). -/
def Header.window (h : Header) : Fin 8 := Fin.ofNat 8 h.selector.val

/-- Steps 2 to 4 of Table 8.2: the refusing answer, or none where the request is accepted. -/
def Window.judge (w : Window) (h : Header) (allowed : Bool) : Option ReplyCode :=
  if !w.enabled then some .refusedWindow
  else if w.length < h.offset + h.wordCount then some .refusedBounds
  else if !w.peers.getLsbD h.source.val || !allowed then some .refusedDenied
  else none

/-- The counts of an accepted WRITE (R134). -/
def Window.written (w : Window) (source : Fin 32) : Window :=
  { w with
    updates := w.updates + 1
    lastWriter := some source
    pending := if w.notify then min (w.pending + 1) 65535 else w.pending }

/-- A WRITE at the window unit (R133, R134): an accepted one begins its store. -/
def State.windowWrite (s : State) (h : Header) (payload : List Word) (payloadFault : Bool) :
    Except Fault (State × ReplyCode) :=
  let w := s.windows[h.window]
  if payloadFault then .ok (s, .checkError)
  else
    match w.judge h w.writeAllowed with
    | some code => .ok (s, code)
    | none =>
      match s.beginTake (w.base + h.offset) (.store payload (.window h.window h.source)) with
      | .error e => .error e
      | .ok t => .ok (t, .accepted)

/-- A READ at the window unit (R133, R135): an accepted one begins its fetch. -/
def State.windowRead (s : State) (h : Header) : Except Fault (State × ReplyCode) :=
  let w := s.windows[h.window]
  match w.judge h w.readAllowed with
  | some code => .ok (s, code)
  | none =>
    match s.beginTake (w.base + h.offset) (.fetch h.wordCount []) with
    | .error e => .error e
    | .ok t => .ok (t, .accepted)

end Sys2Proof.Machine
end

