-- ==== Sys2Proof/Machine/Takes.lean ====
section
/-! DEFINITION. Line-side takes (R119, R134, R135, R160, R161): the word accesses of a segment store, a window store or a
window fetch, one by one or all that are left, and what the block does after the last of them; and the context timer,
whose expiry meets them. -/

namespace Sys2Proof.Machine

/-! ### The accesses -/

/-- The receive unit after the last word of a take (R119, R121). -/
def LineWork.recvDone : LineWork → ReceiveUnit → ReceiveUnit
  | .store _ (.segment i c opens), r => r.segmentStored i c opens
  | .store _ (.window _ _), r => r
  | .fetch _ _, r => r

/-- The window entries after the last word of a take (R134). -/
def LineWork.windowsDone : LineWork → Vector Window 8 → Vector Window 8
  | .store _ (.window w p), ws => ws.set w.val (ws[w].written p) w.isLt
  | .store _ (.segment _ _ _), ws => ws
  | .fetch _ _, ws => ws

/-- The reply that is owed after the last word of a take: a fetch gives it its words (R135). -/
def LineWork.replyDone : LineWork → Option PendingReply → Option PendingReply
  | .fetch _ got, r => r.map fun r => { r with words := got }
  | .store _ _, r => r

/-- What follows the last word of a take. -/
def State.takeEnds (s : State) (work : LineWork) : State :=
  { s with
    recv := work.recvDone s.recv
    windows := work.windowsDone s.windows
    line := { s.line with reply := work.replyDone s.line.reply } }

/-- The take goes on with the word at `a`, or ends when no word is left. -/
def State.takeGoesOn (s : State) (a : Nat) (work : LineWork) : State :=
  if work.remaining = 0 then { s with mem := { s.mem with take := none } }.takeEnds work
  else { s with mem := { s.mem with take := some { address := a, work := work, claimed := false } } }

/-- One word access of the take in progress (R160, R161): its next claim is made only after it. -/
def State.lineAccess (s : State) : State :=
  match s.mem.take with
  | none => s
  | some k =>
    match k.work with
    | .store (w :: rest) done =>
      { s with mem := { s.mem with cells := writeCell k.address w s.mem.cells } }.takeGoesOn (k.address + 1)
        (.store rest done)
    | .fetch (n + 1) got => s.takeGoesOn (k.address + 1) (.fetch n (got ++ [s.word k.address]))
    | .store [] done => s.takeGoesOn k.address (.store [] done)
    | .fetch 0 got => s.takeGoesOn k.address (.fetch 0 got)

/-- At most `n` word accesses of the take in progress. -/
def State.lineAccesses : Nat → State → State
  | 0, s => s
  | n + 1, s => State.lineAccesses n s.lineAccess

/-- What is left of the take in progress when its last word has been served. -/
def BufferMemory.lastWork (m : BufferMemory) : Option LineWork :=
  m.take.map fun k =>
    match k.work with
    | .store _ done => .store [] done
    | .fetch n got => .fetch 0 (got ++ readCells m.cells k.address n)

/-- Buffer memory when the last word of the take in progress has been served. -/
def BufferMemory.served (m : BufferMemory) : BufferMemory :=
  match m.take with
  | none => m
  | some k =>
    match k.work with
    | .store rest _ => { m with cells := writeCells m.cells k.address rest, take := none }
    | .fetch _ _ => { m with take := none }

/-- All the word accesses that are left of the take in progress, with no other claim between them, and what the block
does after the last. -/
def State.finishTake (s : State) : State :=
  { s with
    mem := s.mem.served
    recv := s.mem.lastWork.elim s.recv fun w => w.recvDone s.recv
    windows := s.mem.lastWork.elim s.windows fun w => w.windowsDone s.windows
    line := { s.line with reply := s.mem.lastWork.elim s.line.reply fun w => w.replyDone s.line.reply } }

/-- The take in progress comes to its end before a later event. A block takes its events one after another (R117, R133),
so a later event at the receive unit or the window unit, and the orders of an entry to OFFLINE or FAULTED, find it complete
(log 27), and the event queue has taken what its end made pending (R138, R152). -/
def State.settleTake (s : State) : State := if s.mem.take.isSome then s.finishTake.fill else s

/-- The word accesses of a take that are served within the event that begins it: all of them, or the first `k`. -/
def State.servesTake (s : State) : Option Nat → State
  | none => s.finishTake
  | some k => State.lineAccesses k s

/-! ### The context timer (R122) -/

/-- The context timer has reached C (R122). -/
def Context.expired (c : Context) : Bool := reached Config.contextTimeout c.age

/-- The expiry of the context in entry `i`, taken after the arrival in progress (R122): the context is abandoned; one
whose timer has restarted does not expire. -/
def State.contextExpires (s : State) (i : Fin 12) : State :=
  let t := s.settleTake
  if t.recv.contexts[i].any Context.expired then { t with recv := t.recv.abandon i .abandoned } else s

/-- CONTEXT_TIMER_EXPIRY (R122). -/
def execContextTimerExpiry (i : Fin 12) (s : State) : Host.Outcome State Fault Refusal :=
  event s fun s => (s.contextExpires i).fill

end Sys2Proof.Machine
end

