-- ==== Sys2Proof/Machine/Presence.lean ====
section
/-! DEFINITION. The presence table (chapter 9): hearing a peer, epochs and purge orders, timeouts, the lane query. -/

namespace Sys2Proof.Machine

/-- A record of a peer that is not known (R140). -/
def PresenceRecord.unknown : PresenceRecord := { state := .unknown, epoch := none, heard := none }

/-- Add `p` to the changed-pending mask when `b` holds (R145). -/
def PresenceTable.noteChange (t : PresenceTable) (p : Fin 32) (b : Bool) : PresenceTable :=
  if b then { t with changed := t.changed ||| member p } else t

/-- The header's epoch differs from a recorded one (R142). -/
def PresenceRecord.restarted (x : PresenceRecord) (e : BitVec 4) : Bool :=
  match x.epoch with
  | some old => old != e
  | none => false

/-- A delivery is heard from `p` with epoch `e` (R141, R142). -/
def PresenceTable.hear (t : PresenceTable) (p : Fin 32) (e : BitVec 4) : PresenceTable :=
  let old := t.records[p]
  (t.setRecord p { state := .present, epoch := some e, heard := some 0 }).noteChange p
    (old.state != .present || old.restarted e)

/-- The presence table takes a valid header and hands any purge order to the receive unit, which takes it before the
frame goes on (R18, R125, R141, R142). -/
def State.presenceTakes (s : State) (h : Header) : State :=
  if h.source.val < s.ctl.count ∧ h.source ≠ s.ctl.number then
    { s with
      presence := s.presence.hear h.source h.epoch
      recv := if s.presence.records[h.source].restarted h.epoch then s.recv.purgeOrder h.source else s.recv }
  else s

/-- Entry to OFFLINE (R144): every record other than the own becomes UNKNOWN, and each that was PRESENT or ABSENT is
added to the changed-pending mask. -/
def PresenceTable.offline (t : PresenceTable) (own : Fin 32) : PresenceTable where
  records := Vector.ofFn fun p => if p = own then t.records[p] else PresenceRecord.unknown
  changed :=
    (List.finRange 32).foldl
      (fun m p => if p ≠ own ∧ t.records[p].state ≠ .unknown then m ||| member p else m) t.changed

/-- The presence timer of the record has reached P (R143). -/
def PresenceRecord.expired (x : PresenceRecord) : Bool := x.heard.any (reached Config.presenceTimeout)

/-- The expiry of record `p` (R143): the record becomes ABSENT and an absent order is handed, which the receive unit
takes after the arrival in progress; a record whose timer has restarted does not expire. -/
def State.presenceExpires (s : State) (p : Fin 32) : State :=
  if s.onLine ∧ p ≠ s.ctl.number ∧ s.presence.records[p].state = .present ∧ s.presence.records[p].expired then
    let t := s.settleTake
    { t with
      presence :=
        (t.presence.setRecord p
          { t.presence.records[p] with state := .absent, heard := some Config.presenceTimeout }).noteChange p true
      recv := t.recv.absentOrder p }
  else s

/-- The lane query (R147): the destination's record is ABSENT. -/
def State.isAbsent (s : State) (p : Fin 32) : Bool := s.presence.records[p].state == .absent

/-- The presence map code of station `p` (Table 9.3): SELF for the own number in every state. -/
def State.presenceCode (s : State) (p : Fin 32) : Nat :=
  if p = s.ctl.number then 3
  else
    match s.presence.records[p].state with
    | .unknown => 0
    | .present => 1
    | .absent => 2

/-- PRESENCE_TIMER_EXPIRY (R143). -/
def execPresenceTimerExpiry (p : Fin 32) (s : State) : Host.Outcome State Fault Refusal :=
  event s fun s => (s.presenceExpires p).fill

end Sys2Proof.Machine
end

