-- ==== Sys2Proof/Machine/Station.lean ====
section
/-! DEFINITION. The station controller (chapter 2): leaving the line, the drain test, the fault counters, what it takes
from deliveries, and its timers. -/

namespace Sys2Proof.Machine

/-! ### Entering OFFLINE and FAULTED (R27, R28, R70, R71, R95) -/

/-- The line-lost mark is set in the exchange record (R70). -/
def ExchangeRecord.loseLine (x : ExchangeRecord) : ExchangeRecord := { x with lineLost := true }

/-- What entry to OFFLINE and entry to FAULTED share: sync, last, timers and marks are cleared, the reason is recorded,
the open exchange gets its line-lost mark, the re-offer mark becomes none, a reply that has not begun is not sent
(R54), and every lane acts as R95 states. -/
def State.leaveLine (s : State) (p : Participation) (r : Reason) : State :=
  let t :=
    { s with
      ctl :=
        { s.ctl.record r with
          participation := p, sync := .unsynced, last := none, silence := none, beacon := none }
      sched :=
        { s.sched with
          pendingAnnounce := false
          beaconDue := false
          reoffer := none
          exchange := s.sched.exchange.map ExchangeRecord.loseLine }
      line := { s.line with reply := none } }
  t.mapLanes fun _ l => l.lineLoss

/-- Entry to OFFLINE (R27): the receive unit takes its order (R126) after the arrival in progress. -/
def State.enterOffline (s : State) (r : Reason) : State :=
  let t := s.settleTake
  { t.leaveLine .offline r with recv := t.recv.offline, presence := t.presence.offline t.ctl.number }

/-- Entry to FAULTED (R28): the receive unit takes its order (R126) after the arrival in progress. -/
def State.enterFaulted (s : State) (r : Reason) : State :=
  let t := s.settleTake
  { t.leaveLine .faulted r with recv := t.recv.faulted }

/-! ### The drain (R26) -/

/-- The drain is complete: no lane has line work in progress or owes a cancel, and no exchange is open. -/
def State.drained (s : State) : Bool :=
  s.lanes.all (fun l => !l.lineWork && !l.cancelOwed) && s.sched.exchange.isNone

/-- The drain test (R26). -/
def State.drainTest (s : State) : State :=
  if s.ctl.participation = .leaving ∧ s.drained then s.enterOffline .drained else s

/-- DRAIN_COMPLETE (R26): the test is made. -/
def execDrainComplete (s : State) : Host.Outcome State Fault Refusal := event s fun s => s.drainTest.fill

/-! ### Fault counters (R35, R36) -/

/-- A header check failure at the station controller (R34, R35). -/
def State.headerFails (s : State) (k : FrameClass) : State :=
  let c := if k = .contention then s.ctl.loseSync .header else s.ctl
  if c.sync = .unsynced then
    let t := { s with ctl := { c with badHeaders := c.badHeaders + 1 } }
    if 16 ≤ c.badHeaders + 1 then t.enterFaulted .lineUnusable else t
  else { s with ctl := c }

/-- An own collision notice at the station controller (R36). -/
def State.ownCollision (s : State) : State :=
  let t := { s with ctl := { s.ctl with ownCollisions := s.ctl.ownCollisions + 1 } }
  if 3 ≤ s.ctl.ownCollisions + 1 then t.enterFaulted .duplicateStation else t

/-- An observed collision notice; it is dropped outside ACTIVE and LEAVING (R22, R33). -/
def State.observedCollision (s : State) : State :=
  if s.onLine then { s with ctl := s.ctl.observedCollision } else s

/-! ### Deliveries (R30, R31) -/

/-- A valid header at the station controller: contention class teaches last by its source (R30), a REPLY of reply class
by its destination (R31), any other reply-class frame only clears the bad-header counter. -/
def StationController.takeHeader (c : StationController) (k : FrameClass) (h : Header) : StationController :=
  match k with
  | .contention => { c.gainSync .heard with last := c.known h.source, badHeaders := 0 }
  | .reply =>
    if h.kind = some .reply then { c.gainSync .heard with last := c.known h.destination, badHeaders := 0 }
    else { c with badHeaders := 0 }

/-! ### The stuck notice (R37) -/

/-- The stuck notice at the station controller (R37). -/
def State.stuckNotice (s : State) : State :=
  if s.onLine then { s with ctl := { s.ctl.record .stuck with sync := .unsynced } } else s

/-! ### Timers (R38, R39) -/

/-- The silence timer reaches S (R38); it acts once and then holds at S. A timer that has restarted does not act. -/
def State.silenceExpires (s : State) : State :=
  match s.ctl.silence with
  | some t =>
    if reaches Config.silenceInterval t then
      { s with
        ctl := { s.ctl.gainSync .silence with last := none, silence := some Config.silenceInterval } }
    else s
  | none => s

/-- The beacon timer reaches B (R39); it holds at B. A timer that has restarted does not act. -/
def State.beaconExpires (s : State) : State :=
  match s.ctl.beacon with
  | some t =>
    if reaches Config.beaconInterval t then
      { s with
        ctl := { s.ctl with beacon := some Config.beaconInterval }
        sched := { s.sched with beaconDue := true } }
    else s
  | none => s

/-- SILENCE_TIMER_EXPIRY (R38). -/
def execSilenceTimerExpiry (s : State) : Host.Outcome State Fault Refusal := event s fun s => s.silenceExpires.fill

/-- BEACON_TIMER_EXPIRY (R39). -/
def execBeaconTimerExpiry (s : State) : Host.Outcome State Fault Refusal := event s State.beaconExpires

end Sys2Proof.Machine
end

