-- ==== Sys2Proof/Machine/Lanes.lean ====
section
/-! DEFINITION. The events of the lane engine at the buffer memory controller (R160): the word accesses of fetches,
payload reads, read-data stores and writebacks; and the hold timer (R82). -/

namespace Sys2Proof.Machine

/-- The lane has a word claim waiting at the buffer memory controller (R160). -/
def Lane.claims (l : Lane) : Bool :=
  l.state == .working &&
    match l.job with
    | .fetch _ | .markInProgress | .readPayload _ | .storeRead _ _ | .writeProgress _ | .writeStatus _ => true
    | .none | .waitRequest | .flagRequest | .afterNote | .afterDone _ | .afterEnded => false

/-- The lane whose claim is served next (R160): none while a line-side or host claim is waiting. -/
def State.nextClaim (s : State) : Option (Fin 8) :=
  if s.hostPathFree then (roundRobin s.mem.lanePointer).find? fun i => s.lanes[i].claims else none

/-- One word of the fetch (R77). -/
def Lane.fetchedWord (l : Lane) (k : Fin 8) (w : Word) : Lane :=
  { l with
    copy := l.copy.set k.val w k.isLt
    job := if k = 7 then .markInProgress else .fetch (k + 1) }

/-- One word of the payload read (R80, R84). -/
def Lane.payloadWord (l : Lane) (got : List Word) (w : Word) : Lane :=
  let words := got ++ [w]
  if l.payloadWanted ≤ words.length then l.payloadRead words else { l with job := .readPayload words }

/-- One word of a read-data store (R84). -/
def Lane.storedWord (l : Lane) (offset : Nat) (rest : List Word) : Lane :=
  if rest.isEmpty then l.finish .done else { l with job := .storeRead (offset + 1) rest }

/-- Store a word for lane `i` and change the lane. -/
def State.laneStores (s : State) (i : Fin 8) (a : Nat) (w : Word) (f : Lane → Lane) : Except Fault State :=
  match s.writeWord a w with
  | .error e => .error e
  | .ok t => .ok (t.updateLane i f)

/-- Read a word for lane `i` and change the lane with it. -/
def State.laneReads (s : State) (i : Fin 8) (a : Nat) (f : Word → Lane → Lane) : Except Fault State :=
  match s.readWord a with
  | .error e => .error e
  | .ok w => .ok (s.updateLane i (f w))

/-- The word access of lane `i` (R77 to R80, R84, R90): one word, and what the lane does when it was the last of its
operation. -/
def State.laneAccess (s : State) (i : Fin 8) : Except Fault State :=
  let l := s.lanes[i]
  match l.job with
  | .fetch k => s.laneReads i (l.address + k.val) fun w l => l.fetchedWord k w
  | .markInProgress =>
    s.laneStores i (l.address + 7) (statusWord .inProgress) fun l => l.fetched i s.ctl (s.isAbsent l.destination)
  | .readPayload got => s.laneReads i (l.payloadBase + got.length) fun w l => l.payloadWord got w
  | .storeRead offset (w :: rest) => s.laneStores i (l.bufferAddress + offset) w fun l => l.storedWord offset rest
  | .storeRead _ [] => .ok (s.updateLane i fun l => l.finish .done)
  | .writeProgress st =>
    s.laneStores i (l.address + 6) (progressWord l.lastReply (l.progress st)) fun l => { l with job := .writeStatus st }
  | .writeStatus st =>
    match s.laneStores i (l.address + 7) (statusWord st) fun l => l.statusWritten i st with
    | .error e => .error e
    | .ok t => .ok t.drainTest
  | .none | .waitRequest | .flagRequest | .afterNote | .afterDone _ | .afterEnded => .ok s

/-- The controller serves one waiting lane claim and sets its lane pointer to the lane (R160). -/
def State.serveLane (s : State) : Except Fault State :=
  match s.nextClaim with
  | none => .ok s
  | some i =>
    match { s with mem := { s.mem with lanePointer := i } }.laneAccess i with
    | .error e => .error e
    | .ok t => .ok t.fill

/-- HOLD_TIMER_EXPIRY (R82): the hold timer reaches H, and the lane re-enters QUEUED with the same frame. -/
def execHoldTimerExpiry (i : Fin 8) (s : State) : Host.Outcome State Fault Refusal :=
  event s fun s =>
    if s.lanes[i].state = .held ∧ s.lanes[i].hold.any (reached Config.busyHold) then
      s.updateLane i Lane.requeue
    else s

end Sys2Proof.Machine
end

