-- ==== Sys2Proof/Machine/Operands.lean ====
section
/-! DEFINITION. The operands of commands: the parameters of the command slot (R166, R167) and the fields of the words
the host writes (R173). -/

namespace Sys2Proof.Machine

/-- Parameter `k` of the command slot. -/
def State.param (s : State) (k : Fin 6) : Word := s.host.params[k]

/-- A parameter word as a number in range `0..n-1`; the whole word takes part in the range test (R167). -/
def numberBelow (n : Nat) (w : Word) : Option (Fin n) := if h : w.toNat < n then some ⟨w.toNat, h⟩ else none

/-- Parameter 0 as a lane number 0..7. -/
def State.paramLane (s : State) : Option (Fin 8) := numberBelow 8 (s.param 0)

/-- Parameter 0 as a port number 0..15. -/
def State.paramPort (s : State) : Option (Fin 16) := numberBelow 16 (s.param 0)

/-- Parameter 0 as a window number 0..7. -/
def State.paramWindow (s : State) : Option (Fin 8) := numberBelow 8 (s.param 0)

/-- The 32-bit mask of parameters `k` and the one after it, low word first (R104, R105, R131). -/
def State.paramMask (s : State) (k k' : Fin 6) : BitVec 32 := mask32 (s.param k) (s.param k')

/-- The command code of a value written to word 17: bits 7..0 (R165, R173). -/
def codeOf (value : Word) : BitVec 8 := value.setWidth 8

/-- The access word of LOAD WINDOW (R173): read-allowed, write-allowed, notify. -/
def accessRead (w : Word) : Bool := bit w 0
def accessWrite (w : Word) : Bool := bit w 1
def accessNotify (w : Word) : Bool := bit w 2

end Sys2Proof.Machine
end

