-- ==== Sys2Proof/Machine/HostPort.lean ====
section
/-! DEFINITION. The host port (chapter 11): what a host read shows at every address, the effect of every host access, the
host claims, and the controller that serves them. -/

namespace Sys2Proof.Machine

/-! ### Reads (Tables 11.1, 11.2, 12.5) -/

/-- Word 1: station number, N as sampled, rate code (R20). -/
def State.strapsWord (s : State) : Word :=
  BitVec.ofNat 16 (s.ctl.number.val * 2048 + s.ctl.count % 64 * 32 + s.ctl.rate.val)

/-- Word 2: participation, sync, last, reason (R41). -/
def State.stationWord (s : State) : Word :=
  BitVec.ofNat 16
    (s.ctl.participation.code * 16384 + s.ctl.sync.code * 8192 + stationCode s.ctl.last * 128 + s.ctl.reason.code)

/-- Word 3: the interrupt enables (R156). -/
def State.enablesWord (s : State) : Word :=
  BitVec.ofNat 16
    (s.host.enableCommandDone.toNat * 4 + s.host.enableLineFault.toNat * 2 + s.host.enableEvent.toNat)

/-- Word 4: the causes (R157). -/
def State.causesWord (s : State) : Word := BitVec.ofNat 16 (s.host.commandDone.toNat * 4 + s.line.lineFault.toNat * 2)

/-- Words 8 to 15: the entry at the head of the queue, or all 0 (R154). -/
def State.headWord (s : State) (k : Fin 8) : Word :=
  match s.queue.entries with
  | e :: _ => e.words[k]
  | [] => 0

/-- Word 17: owner and code (R165). -/
def State.commandWord (s : State) : Word :=
  BitVec.ofNat 16 ((if s.host.owner = .station then 32768 else 0) + s.host.code.toNat)

/-- Words 25 to 28: the presence map, eight stations to a word (R146). -/
def State.presenceWord (s : State) (w : Fin 4) : Word :=
  BitVec.ofNat 16
    ((List.finRange 8).map fun k => s.presenceCode (Fin.ofNat 32 (8 * w.val + k.val)) * 4 ^ k.val).sum

/-- The lane summary code (R75): a running lane with its stop mark set shows STOPPING. -/
def Lane.summary (l : Lane) : Nat :=
  match l.state with
  | .idle => 0
  | .waiting => if l.stopMark then 3 else 2
  | .working | .queued | .exchange | .held | .reporting | .cancelling => if l.stopMark then 3 else 1

/-- Word 29: the lane summary (R75). -/
def State.lanesWord (s : State) : Word :=
  BitVec.ofNat 16 ((List.finRange 8).map fun k => s.lanes[k].summary * 4 ^ k.val).sum

/-- What a host read of control page word `page` shows (Table 11.2). -/
def State.pageRead (s : State) (page : BitVec 5) : Word :=
  match page.toNat with
  | 0 => Config.identity
  | 1 => s.strapsWord
  | 2 => s.stationWord
  | 3 => s.enablesWord
  | 4 => s.causesWord
  | 5 => low16 s.time.micros
  | 6 => s.host.latch
  | 7 => BitVec.ofNat 16 s.queue.entries.length
  | 8 => s.headWord 0
  | 9 => s.headWord 1
  | 10 => s.headWord 2
  | 11 => s.headWord 3
  | 12 => s.headWord 4
  | 13 => s.headWord 5
  | 14 => s.headWord 6
  | 15 => s.headWord 7
  | 17 => s.commandWord
  | 18 => s.param 0
  | 19 => s.param 1
  | 20 => s.param 2
  | 21 => s.param 3
  | 22 => s.param 4
  | 23 => s.param 5
  | 24 => BitVec.ofNat 16 s.host.result.code
  | 25 => s.presenceWord 0
  | 26 => s.presenceWord 1
  | 27 => s.presenceWord 2
  | 28 => s.presenceWord 3
  | 29 => s.lanesWord
  | 30 => low16 s.flags.flags
  | 31 => high16 s.flags.flags
  | _ => 0

/-- What a host read of host address `a` shows (Table 11.1). -/
def State.hostRead (s : State) (a : BitVec 15) : Word :=
  if a.toNat < Config.memoryWords then s.word a.toNat
  else if a.toNat < Config.memoryWords + 32 then s.pageRead (BitVec.ofNat 5 (a.toNat - Config.memoryWords))
  else 0

/-- The host address of a control page word (Table 11.1). -/
def controlAddress (page : BitVec 5) : BitVec 15 := BitVec.ofNat 15 (Config.memoryWords + page.toNat)

/-- A host read of host address `a` at its service (R159, R162, R163): the word is driven on HD0..HD15 unless the read's
strobe has ended, and a read of word 5 latches the high word of the time base. -/
def State.readServed (s : State) (a : BitVec 15) (driven : Bool) : State :=
  { s with host := { s.host with
    dataOut := if driven then some (s.hostRead a) else s.host.dataOut
    latch := if a = controlAddress 5 then high16 s.time.micros else s.host.latch } }

/-! ### Writes -/

/-- A host write to word 3 replaces the three enables (R156). -/
def HostPort.writeEnables (h : HostPort) (v : Word) : HostPort :=
  { h with enableEvent := bit v 0, enableLineFault := bit v 1, enableCommandDone := bit v 2 }

/-- A host write to word 4 (R17, R164): COMMAND DONE is cleared where 1 is written, LINE FAULT only if the stuck
condition has ended. -/
def State.writeCauses (s : State) (v : Word) : State :=
  { s with
    host := { s.host with commandDone := s.host.commandDone && !bit v 2 }
    line := { s.line with lineFault := s.line.lineFault && !(bit v 1 && !s.line.stuck) } }

/-- A host write to word 17 (R165). -/
def HostPort.writeCommand (h : HostPort) (v : Word) : HostPort :=
  match h.owner with
  | .station => h
  | .host =>
    if codeOf v = 0 then { h with code := 0 } else { h with code := codeOf v, owner := .station }

/-- A host write to one of the words 18 to 23 (R165). -/
def HostPort.writeParam (h : HostPort) (k : Fin 6) (v : Word) : HostPort :=
  match h.owner with
  | .station => h
  | .host => { h with params := h.params.set k.val v k.isLt }

/-- A host write to control page word `page` (Table 11.2). The words with a row of their own act as that row. -/
def State.pageWrite (s : State) (page : BitVec 5) (v : Word) : State :=
  match page.toNat with
  | 3 => { s with host := s.host.writeEnables v }
  | 4 => s.writeCauses v
  | 16 => s.acknowledge
  | 17 => { s with host := s.host.writeCommand v }
  | 18 => { s with host := s.host.writeParam 0 v }
  | 19 => { s with host := s.host.writeParam 1 v }
  | 20 => { s with host := s.host.writeParam 2 v }
  | 21 => { s with host := s.host.writeParam 3 v }
  | 22 => { s with host := s.host.writeParam 4 v }
  | 23 => { s with host := s.host.writeParam 5 v }
  | _ => s

/-- A host write to host address `a` (Table 11.1). -/
def State.hostWrite (s : State) (a : BitVec 15) (v : Word) : State :=
  if a.toNat < Config.memoryWords then
    { s with mem := { s.mem with cells := writeCell a.toNat v s.mem.cells } }
  else if a.toNat < Config.memoryWords + 32 then s.pageWrite (BitVec.ofNat 5 (a.toNat - Config.memoryWords)) v
  else s

/-! ### Host claims (R159) -/

/-- The controller serves a host claim (R159). -/
def State.serveHost (s : State) : HostClaim → State
  | .write a v => s.hostWrite a v
  | .read a driven => s.readServed a driven

/-- The strobe of a waiting access has ended: a write is still carried out, a read is served with no data driven
(R159). -/
def HostClaim.abandoned : HostClaim → HostClaim
  | .write a v => .write a v
  | .read a _ => .read a false

/-- The strobe of the access that the host has begun has ended (R159): no data is driven, and the accesses that still
wait are abandoned. -/
def State.strobeEnds (s : State) : State :=
  { s with host := { s.host with dataOut := none, claims := s.host.claims.map HostClaim.abandoned } }

/-- The host begins an access (R159), the strobe of the one before it having ended. With no line-side claim and no host
claim waiting it is served at once; otherwise its claim waits, behind the accesses before it. -/
def State.hostAccess (s : State) (c : HostClaim) : State :=
  let t := s.strobeEnds
  if t.hostPathFree then t.serveHost c else { t with host := { t.host with claims := t.host.claims ++ [c] } }

/-- What the host does with its strobes at address `a` (R158, R159). -/
def State.hostStrobe (s : State) (a : BitVec 15) : HostStrobe → State
  | .write v => s.hostAccess (.write a v)
  | .read => s.hostAccess (.read a true)
  | .readEnds => s.strobeEnds

/-! ### Meanings -/

/-- HOST_MEMORY_WRITE (R158), and the host's strobes that have no row (R159; log 25). -/
def execHostMemoryWrite (a : BitVec 15) (strobe : HostStrobe) (s : State) : Host.Outcome State Fault Refusal :=
  event s fun s => s.hostStrobe a strobe

/-- CONTROL_PAGE_WRITE (R162). -/
def execControlPageWrite (page : BitVec 5) (v : Word) (s : State) : Host.Outcome State Fault Refusal :=
  event s fun s => s.hostAccess (.write (controlAddress page) v)

/-- WRITE_INTERRUPT_ENABLES (R156): control page word 3. -/
def execWriteInterruptEnables (v : Word) (s : State) : Host.Outcome State Fault Refusal :=
  event s fun s => s.hostAccess (.write (controlAddress 3) v)

/-- WRITE_CAUSES (R164): control page word 4. -/
def execWriteCauses (v : Word) (s : State) : Host.Outcome State Fault Refusal :=
  event s fun s => s.hostAccess (.write (controlAddress 4) v)

/-- EVENT_ACKNOWLEDGE (R155): control page word 16; the value written is ignored. -/
def execEventAcknowledge (v : Word) (s : State) : Host.Outcome State Fault Refusal :=
  event s fun s => s.hostAccess (.write (controlAddress 16) v)

/-- COMMAND_WORD_WRITE (R165): control page word 17. -/
def execCommandWordWrite (v : Word) (s : State) : Host.Outcome State Fault Refusal :=
  event s fun s => s.hostAccess (.write (controlAddress 17) v)

/-- TIME_BASE_LOW_READ (R163): control page word 5. -/
def execTimeBaseLowRead (s : State) : Host.Outcome State Fault Refusal :=
  event s fun s => s.hostAccess (.read (controlAddress 5) true)

/-! ### The controller (R160) -/

/-- A claim of some class is waiting at the controller, or will be with the next claim of the take in progress. -/
def State.claimWaits (s : State) : Bool := s.mem.take.isSome || !s.host.claims.isEmpty || s.nextClaim.isSome

/-- The controller serves one waiting claim: the first class in the order line side, host, lanes that has one. -/
def State.serveClaim (s : State) : Except Fault State :=
  if s.mem.lineClaims then .ok s.lineAccess.fill
  else
    match s.host.claims with
    | c :: rest => .ok ({ s with host := { s.host with claims := rest } }.serveHost c)
    | [] => s.serveLane

/-- LANE_WORD_ACCESS (R160). -/
def execLaneWordAccess (s : State) : Host.Outcome State Fault Refusal := eventWithAccess s State.serveClaim

end Sys2Proof.Machine
end

