-- ==== Sys2Proof/Machine/Commands.lean ====
section
/-! DEFINITION. The command unit's take (R166) and what each of the commands carries out at it (Table 11.3). -/

namespace Sys2Proof.Machine

/-- The take of a waiting command whose code satisfies `named` (R166): the command is carried out, its result is
written, the owner becomes HOST and COMMAND DONE is set. With no such command waiting there is no take (log 16). -/
def takeCommand (s : State) (named : BitVec 8 → Bool) (f : State → State × CommandResult) :
    Host.Outcome State Fault Refusal :=
  event s fun s =>
    if s.host.owner = .station ∧ named s.host.code then
      let r := f s
      { r.1 with host := { r.1.host with result := r.2, owner := .host, commandDone := true } }.fill
    else s

/-! ### JOIN and LEAVE (R24, R25) -/

/-- The station controller's side of a JOIN that is OK (R24). -/
def StationController.joined (c : StationController) : StationController :=
  { c.record .join with
    epoch := c.epoch + 1
    badHeaders := 0
    ownCollisions := 0
    last := none
    participation := .active
    sync := .unsynced
    silence := some 0
    beacon := some 0 }

/-- JOIN (R24). -/
def State.doJoin (s : State) : State × CommandResult :=
  if s.ctl.participation ≠ .offline then (s, .wrongState)
  else if s.ctl.badStraps then (s, .strapError)
  else
    ({ s with
        ctl := s.ctl.joined
        sched := { s.sched with pendingAnnounce := true } }.mapLanes fun _ l => { l with messageCounter := 0 }, .ok)

/-- LEAVE (R25). With the drain complete it goes on to OFFLINE, so a take in progress comes to its end first (log 27): the two
changes then set the one pending mark, and the event shows OFFLINE. -/
def State.doLeave (s : State) : State × CommandResult :=
  match s.ctl.participation with
  | .offline => (s, .wrongState)
  | .active =>
    let t := if s.drained then s.settleTake else s
    ({ t with ctl := { t.ctl.record .leave with participation := .leaving } }.drainTest, .ok)
  | .leaving | .faulted => (s.enterOffline .forced, .ok)

/-! ### Lanes (R76, R93) -/

/-- START LANE that is OK (R76). -/
def Lane.started (l : Lane) (a : Nat) : Lane :=
  { l with stopMark := false, cancelOwed := false, pendingStatus := none, heldEvent := none }.fetchAt a

/-- START LANE (R76). -/
def State.doStartLane (s : State) : State × CommandResult :=
  match s.paramLane with
  | none => (s, .badParameter)
  | some i =>
    let a := (s.param 1).toNat
    if Config.lastDescriptor < a then (s, .badParameter)
    else if s.lanes[i].state ≠ .idle then (s, .laneBusy)
    else (s.updateLane i fun l => l.started a, .ok)

/-- STOP LANE (R93). -/
def State.doStopLane (s : State) : State × CommandResult :=
  match s.paramLane with
  | none => (s, .badParameter)
  | some i => if s.lanes[i].state = .idle then (s, .notRunning) else (s.updateLane i Lane.stop, .ok)

/-! ### Ports (R111, R112, R113)

The receive unit carries a command out after the arrival in progress (R117; log 27). The command is judged before: a result
other than OK leaves the take as it stands (R166). -/

/-- OPEN PORT (R112). -/
def State.doOpenPort (s : State) : State × CommandResult :=
  match s.paramPort with
  | none => (s, .badParameter)
  | some p =>
    let t := s.settleTake
    ({ t with recv := t.recv.updatePort p fun x => { x with isOpen := true } }, .ok)

/-- The completion entry of a posted buffer that CLOSE PORT returns (R113). -/
def Buffer.returned (b : Buffer) : Completion where
  buffer := b.address
  status := .returned
  length := 0
  source := none
  message := none

/-- CLOSE PORT at the receive unit (R113): closed, contexts abandoned CLOSED, posted buffers returned, in this order. -/
def ReceiveUnit.closePort (r : ReceiveUnit) (p : Fin 16) : ReceiveUnit :=
  ((r.updatePort p fun x => { x with isOpen := false }).abandonAll .closed fun c => c.port == p).updatePort p
    fun x => { x with completions := x.completions ++ x.posted.map Buffer.returned, posted := [] }

/-- CLOSE PORT (R113). -/
def State.doClosePort (s : State) : State × CommandResult :=
  match s.paramPort with
  | none => (s, .badParameter)
  | some p =>
    let t := s.settleTake
    ({ t with recv := t.recv.closePort p }, .ok)

/-- POST RECEIVE (R111). -/
def State.doPostReceive (s : State) : State × CommandResult :=
  let address := (s.param 1).toNat
  let capacity := (s.param 2).toNat
  match s.paramPort with
  | none => (s, .badParameter)
  | some p =>
    if capacity < 1 ∨ 2048 < capacity ∨ 16383 < address ∨ Config.memoryWords < address + capacity then
      (s, .badParameter)
    else if s.recv.bufferCount p = Config.portBuffers then (s, .portFull)
    else
      let t := s.settleTake
      ({ t with
          recv := t.recv.updatePort p fun x =>
            { x with posted := x.posted ++ [{ address := address, capacity := capacity }] } }, .ok)

/-! ### Windows (R131, R132)

The window unit too carries a command out after the arrival in progress (R133, R136; log 27). -/

/-- LOAD WINDOW (R131). -/
def State.doLoadWindow (s : State) : State × CommandResult :=
  let base := (s.param 1).toNat
  let length := (s.param 2).toNat
  let access := s.param 3
  match s.paramWindow with
  | none => (s, .badParameter)
  | some w =>
    if 16383 < base ∨ length < 1 ∨ Config.memoryWords < length ∨ Config.memoryWords < base + length then
      (s, .badParameter)
    else
      (s.settleTake.updateWindow w fun x =>
        { x with
          enabled := true, base := base, length := length, readAllowed := accessRead access,
          writeAllowed := accessWrite access, notify := accessNotify access, peers := s.paramMask 4 5, updates := 0 }, .ok)

/-- CLEAR WINDOW (R132). -/
def State.doClearWindow (s : State) : State × CommandResult :=
  match s.paramWindow with
  | none => (s, .badParameter)
  | some w => (s.settleTake.updateWindow w fun x => { x with enabled := false }, .ok)

/-! ### Flags (R104, R105) -/

/-- SET FLAGS (R104). -/
def State.doSetFlags (s : State) : State × CommandResult := (s.setFlagMask (s.paramMask 0 1), .ok)

/-- CLEAR FLAGS (R104). -/
def State.doClearFlags (s : State) : State × CommandResult := (s.clearFlagMask (s.paramMask 0 1), .ok)

/-- SET SIGNAL MASKS (R105). -/
def State.doSetSignalMasks (s : State) : State × CommandResult :=
  ({ s with flags := { s.flags with accept := s.paramMask 0 1, notify := s.paramMask 2 3 } }, .ok)

/-! ### The takes -/

/-- JOIN: code 1. -/
def execJoin (s : State) : Host.Outcome State Fault Refusal := takeCommand s (· == 1) State.doJoin
/-- LEAVE: code 2. -/
def execLeave (s : State) : Host.Outcome State Fault Refusal := takeCommand s (· == 2) State.doLeave
/-- START LANE: code 3. -/
def execStartLane (s : State) : Host.Outcome State Fault Refusal := takeCommand s (· == 3) State.doStartLane
/-- STOP LANE: code 4. -/
def execStopLane (s : State) : Host.Outcome State Fault Refusal := takeCommand s (· == 4) State.doStopLane
/-- OPEN PORT: code 5. -/
def execOpenPort (s : State) : Host.Outcome State Fault Refusal := takeCommand s (· == 5) State.doOpenPort
/-- CLOSE PORT: code 6. -/
def execClosePort (s : State) : Host.Outcome State Fault Refusal := takeCommand s (· == 6) State.doClosePort
/-- POST RECEIVE: code 7. -/
def execPostReceive (s : State) : Host.Outcome State Fault Refusal := takeCommand s (· == 7) State.doPostReceive
/-- LOAD WINDOW: code 8. -/
def execLoadWindow (s : State) : Host.Outcome State Fault Refusal := takeCommand s (· == 8) State.doLoadWindow
/-- CLEAR WINDOW: code 9. -/
def execClearWindow (s : State) : Host.Outcome State Fault Refusal := takeCommand s (· == 9) State.doClearWindow
/-- SET FLAGS: code 10. -/
def execSetFlags (s : State) : Host.Outcome State Fault Refusal := takeCommand s (· == 10) State.doSetFlags
/-- CLEAR FLAGS: code 11. -/
def execClearFlags (s : State) : Host.Outcome State Fault Refusal := takeCommand s (· == 11) State.doClearFlags
/-- SET SIGNAL MASKS: code 12. -/
def execSetSignalMasks (s : State) : Host.Outcome State Fault Refusal := takeCommand s (· == 12) State.doSetSignalMasks
/-- A code of 13 to 255 (R166): nothing is carried out. -/
def execUnknownCommand (s : State) : Host.Outcome State Fault Refusal :=
  takeCommand s (fun c => decide (13 ≤ c.toNat)) fun s => (s, .unknownCommand)

end Sys2Proof.Machine
end

