-- ==== Sys2Proof/Machine/Scheduler.lean ====
section
/-! DEFINITION. The transmit scheduler (chapter 4): the choice at a turn, the exchange it opens, what it takes while the
exchange runs, and the close. -/

namespace Sys2Proof.Machine

/-! ### Offers and the choice (R58, R59) -/

/-- Lane `i` offers a CANCEL (R58). -/
def State.offersCancel (s : State) (i : Fin 8) : Bool :=
  s.lanes[i].state == .cancelling && s.lanes[i].frame.isSome

/-- Lane `i` offers a lane frame (R58). -/
def State.offersFrame (s : State) (i : Fin 8) : Bool := s.lanes[i].state == .queued && s.lanes[i].frame.isSome

/-- Rule 2 of R59: the lane named by the re-offer mark, if it has an offer. -/
def State.reoffered (s : State) : Option (Fin 8) :=
  match s.sched.reoffer with
  | some i => if s.offersCancel i || s.offersFrame i then some i else none
  | none => none

/-- The choice of R59: the first of the five rules that yields a frame. -/
def State.choose (s : State) : Option Owner :=
  if s.sched.pendingAnnounce then some .announce
  else
    match s.reoffered with
    | some i => some (.lane i)
    | none =>
      match (roundRobin s.sched.rotation).find? s.offersCancel with
      | some i => some (.lane i)
      | none =>
        match (roundRobin s.sched.rotation).find? s.offersFrame with
        | some i => some (.lane i)
        | none => if s.sched.beaconDue then some .beacon else none

/-- The header fields the scheduler builds for an ANNOUNCE or a BEACON (R62). -/
def stationHead (kind : FrameKind) : FrameHead :=
  { kind := kind, destination := 0, all := true, selector := 0, h2 := 0, h3 := 0 }

/-- The frame of an owner's offer (R62). -/
def State.offeredFrame (s : State) : Owner → PreparedFrame
  | .announce => { head := stationHead .announce, payload := [] }
  | .beacon => { head := stationHead .beacon, payload := [] }
  | .lane i => s.lanes[i].frame.getD { head := stationHead .beacon, payload := [] }

/-- The source lane of an owner's frame (R62). -/
def Owner.sourceLane : Owner → Fin 8
  | .lane i => i
  | .announce | .beacon => 0

/-- A frame is addressed (R43). -/
def FrameHead.addressed (h : FrameHead) : Bool :=
  match h.kind with
  | .data | .cancel | .read | .write | .reply => true
  | .signal => !h.all
  | .announce | .beacon => false

/-- The exchange record a choice opens (R62). -/
def openedExchange (o : Owner) (f : PreparedFrame) : ExchangeRecord where
  owner := o
  head := f.head
  sourceLane := o.sourceLane
  payloadCount := f.payload.length
  expectsReply := f.head.addressed
  phase := .sending
  outcome := none
  lineLost := false

/-- The transmitter begins a frame (R6): the line becomes SENDING, the activity mark is set, slot counting stops, and a
new run of activity begins. -/
def LineInterface.begin (x : LineInterface) (t : Transmission) : LineInterface :=
  { x with
    activity := .sending, frameOver := false, activityMark := true, slots := .stopped, idleTime := some 0,
    tx := some t, txTime := 0, reply := none, runTime := 0 }

/-- The scheduler after a choice (R60 to R62): a lane's choice moves the rotation pointer and clears a re-offer mark
that names the lane. -/
def Scheduler.choice (x : Scheduler) (o : Owner) (f : PreparedFrame) : Scheduler :=
  match o with
  | .lane i =>
    { x with
      rotation := i
      reoffer := if x.reoffer = some i then none else x.reoffer
      exchange := some (openedExchange o f) }
  | .announce | .beacon => { x with exchange := some (openedExchange o f) }

/-- A chosen lane goes to EXCHANGE (R62). -/
def Lane.chosen (l : Lane) : Lane := { l with state := .exchange, job := .none }

/-- Begin the frame of `o` (R62). -/
def State.beginFrame (s : State) (o : Owner) : State :=
  let f := s.offeredFrame o
  let t : Transmission :=
    { frameClass := .contention, header := Header.build f.head s.ctl.number o.sourceLane s.ctl.epoch,
      payload := f.payload }
  let u := { s with line := s.line.begin t, ctl := s.ctl.activity, sched := s.sched.choice o f }
  match o with
  | .lane i => u.updateLane i Lane.chosen
  | .announce | .beacon => u

/-- The line interface asks for a frame (R11, R59); at every ask the current exchange is none. -/
def State.turn (s : State) : State :=
  if s.sched.exchange.isSome then s
  else
    match s.choose with
    | some o => s.beginFrame o
    | none => s

/-! ### Running the exchange (R64 to R68) -/

/-- Change the open exchange, if there is one. -/
def Scheduler.mapExchange (x : Scheduler) (f : ExchangeRecord → ExchangeRecord) : Scheduler :=
  { x with exchange := x.exchange.map f }

/-- The own frame completion at the scheduler (R64). -/
def ExchangeRecord.completed (x : ExchangeRecord) : ExchangeRecord :=
  if x.phase = .sending then
    if x.expectsReply then { x with phase := .awaiting } else { x with phase := .decided, outcome := some .sent }
  else x

/-- The collision outcome at the scheduler (R65). -/
def ExchangeRecord.collided (x : ExchangeRecord) : ExchangeRecord :=
  if x.phase = .sending then { x with phase := .decided, outcome := some .collision } else x

/-- The stuck notice at the scheduler (R68). -/
def ExchangeRecord.stuck (x : ExchangeRecord) : ExchangeRecord :=
  if x.phase = .decided then x else { x with phase := .decided, outcome := some .noReply }

/-- The reply matches the exchange record (R66). -/
def ExchangeRecord.matched (x : ExchangeRecord) (h : Header) : Bool :=
  h.source == x.head.destination && h.sourceLane == x.sourceLane && h.selector == x.head.selector &&
    h.h2 == x.head.h2

/-- The reply code is one that Table 3.6 lists for the request's kind, CHECK-ERROR and REFUSED-MALFORMED for every
addressed kind (R66). -/
def ReplyCode.listedFor (c : ReplyCode) : FrameKind → Bool
  | .data =>
    match c with
    | .accepted | .busyNoBuffer | .busyNoContext | .busyPending | .refusedClosed | .refusedLength | .refusedStray
    | .checkError | .refusedMalformed => true
    | .refusedWindow | .refusedBounds | .refusedDenied | .refusedMasked => false
  | .cancel => c == .accepted || c == .checkError || c == .refusedMalformed
  | .read | .write =>
    match c with
    | .accepted | .refusedWindow | .refusedBounds | .refusedDenied | .checkError | .refusedMalformed => true
    | .busyNoBuffer | .busyNoContext | .busyPending | .refusedClosed | .refusedLength | .refusedStray
    | .refusedMasked => false
  | .signal => c == .accepted || c == .refusedMasked || c == .checkError || c == .refusedMalformed
  | .announce | .beacon | .reply => false

/-- The reply suits the request (R66). -/
def ExchangeRecord.suited (x : ExchangeRecord) (c : ReplyCode) (count : Nat) : Bool :=
  c.listedFor x.head.kind &&
    (if x.head.kind = .read ∧ c = .accepted then count == field x.head.h3 0 4 + 1 else count == 0)

/-- The reply code of a good reply (R55): the payload result is good, the code is 0..12, the count field is 16 or less
and equals the payload count, and only ACCEPTED carries a payload; none for a bad reply. -/
def goodReply (d : Delivery) : Option ReplyCode :=
  match ReplyCode.ofCode d.header.replyCode with
  | some c =>
    if d.payloadGood ∧ d.header.replyCount ≤ 16 ∧ d.header.replyCount = d.payload.length ∧
        (d.payload = [] ∨ c = .accepted)
    then some c else none
  | none => none

/-- A REPLY at an exchange in AWAITING (R66): a good one that matches and suits gives REPLY, any other BAD REPLY. -/
def ExchangeRecord.takeReply (x : ExchangeRecord) (d : Delivery) : ExchangeRecord :=
  if x.phase = .awaiting then
    match goodReply d with
    | some c =>
      if x.matched d.header ∧ x.suited c d.payload.length then
        { x with phase := .decided, outcome := some (.reply c d.payload) }
      else { x with phase := .decided, outcome := some .badReply }
    | none => { x with phase := .decided, outcome := some .badReply }
  else x

/-! ### The close (R67, R69) -/

/-- The outcome handed at the exchange end: NO REPLY in AWAITING, LINE LOST with the line-lost mark (R67, R69). -/
def ExchangeRecord.handed (x : ExchangeRecord) : ExchangeOutcome :=
  if x.lineLost then .lineLost
  else if x.phase = .awaiting then .noReply
  else x.outcome.getD .noReply

/-- The scheduler takes the exchange end of its open exchange (R69): the outcome goes to the owner, a lane's COLLISION
sets the re-offer mark, and the current exchange becomes none; then the drain is tested (R26). -/
def State.closeExchange (s : State) : State :=
  match s.sched.exchange with
  | none => s
  | some x =>
    let o := x.handed
    let t :=
      match x.owner with
      | .lane i =>
        { s with
          sched :=
            { s.sched with
              exchange := none
              reoffer := if o = ExchangeOutcome.collision then some i else s.sched.reoffer } }.updateLane i fun l => l.takeOutcome o
      | .announce | .beacon => { s with sched := { s.sched with exchange := none } }
    t.drainTest

end Sys2Proof.Machine
end

