-- ==== Sys2Proof/Machine/Judge.lean ====
section
/-! DEFINITION. The judgement of a delivery (R48 to R52) and the reply it gives (R54, R55). -/

namespace Sys2Proof.Machine

/-! ### The tests -/

/-- The frame is misplaced: its kind and class disagree (R48). -/
def Header.misplaced (h : Header) (k : FrameClass) : Bool :=
  match h.kind with
  | some .reply => k != .reply
  | some _ => k != .contention
  | none => false

/-- The frame is addressed (R43). -/
def Header.addressed (h : Header) : Bool :=
  match h.kind with
  | some .data | some .cancel | some .read | some .write | some .reply => true
  | some .signal => !h.all
  | some .announce | some .beacon | none => false

/-- The frame is a broadcast (R43). -/
def Header.broadcast (h : Header) : Bool :=
  match h.kind with
  | some .announce | some .beacon => true
  | some .signal => h.all
  | some .data | some .cancel | some .read | some .write | some .reply | none => false

/-- The frame is for the station `own` (R49). -/
def Header.isFor (h : Header) (own : Fin 32) : Bool :=
  h.source != own && (h.broadcast || (h.addressed && h.destination == own))

/-- The frame is malformed on a line of `n` stations (R50). -/
def Header.malformed (h : Header) (n : Nat) : Bool :=
  h.kind == none || decide (n ≤ h.source.val) ||
    (h.kind == some .data && decide (h.messageLength ≤ 32 * h.index)) ||
    ((h.kind == some .data || h.kind == some .cancel) && decide (15 < h.selector.val)) ||
    ((h.kind == some .read || h.kind == some .write) && decide (7 < h.selector.val))

/-- The kind needs a reply when the frame is addressed (Table 3.3). -/
def FrameKind.needsReply : FrameKind → Bool
  | .data | .cancel | .read | .write | .signal => true
  | .announce | .beacon | .reply => false

/-- A reply is owed to the frame, if it is for this station (R54). -/
def Header.owedReply (h : Header) : Bool := h.addressed && h.kind.any FrameKind.needsReply

/-- The payload count the frame's kind expects (Table 3.3, R46). -/
def Header.expectedCount (h : Header) : Nat :=
  match h.kind with
  | some .data => segmentSize h.messageLength h.index
  | some .write => h.wordCount
  | some .reply => h.replyCount
  | some .announce | some .beacon | some .cancel | some .read | some .signal | none => 0

/-- The delivery has a payload fault (R51). -/
def Delivery.payloadFault (d : Delivery) : Bool :=
  !d.payloadGood || d.payload.length != d.header.expectedCount

/-! ### The reply -/

/-- A reply is made (R54, R55): it waits for its start point. -/
def State.answer (s : State) (request : Header) (code : ReplyCode) (words : List Word) : State :=
  { s with line := { s.line with reply := some { request := request, code := code, words := words, waited := 0 } } }

/-- The answer of a block that took a request; the words of a READ's reply follow its fetch (R135). -/
def State.answered (r : Except Fault (State × ReplyCode)) (request : Header) : Except Fault State :=
  match r with
  | .error e => .error e
  | .ok (t, code) => .ok (t.answer request code [])

/-- The REPLY to a request (R55). -/
def replyFrame (own : Fin 32) (epoch : BitVec 4) (r : PendingReply) : Transmission where
  frameClass := .reply
  header :=
    Header.build
      { kind := .reply, destination := r.request.source, all := false, selector := r.request.selector,
        h2 := r.request.h2, h3 := replyWord r.code r.words.length }
      own r.request.sourceLane epoch
  payload := r.words

/-! ### The order of judgement (R52) -/

/-- A SIGNAL reaches the flag unit (R106): only an addressed one is answered. -/
def State.signalArrival (s : State) (h : Header) : State :=
  let r := s.takeSignal h.selector
  if h.all then r.1 else r.1.answer h r.2 []

/-- Steps 4 and 5 of R52 for a frame for this station that is neither misplaced nor malformed. -/
def State.handOn (s : State) (d : Delivery) : Except Fault State :=
  let h := d.header
  match h.kind with
  | some .data => State.answered (s.dataArrival h d.payload d.payloadFault) h
  | some .write => State.answered (s.windowWrite h d.payload d.payloadFault) h
  | some .cancel =>
    if d.payloadFault then .ok (s.answer h .checkError [])
    else .ok ({ s with recv := s.recv.cancelArrival h }.answer h .accepted [])
  | some .read =>
    if d.payloadFault then .ok (s.answer h .checkError []) else State.answered (s.windowRead h) h
  | some .signal =>
    if d.payloadFault then (if h.all then .ok s else .ok (s.answer h .checkError []))
    else .ok (s.signalArrival h)
  | some .reply => .ok { s with sched := s.sched.mapExchange fun x => x.takeReply d }
  | some .announce | some .beacon | none => .ok s

/-- The judgement of a delivery with a valid header (R52). -/
def State.judge (s : State) (d : Delivery) : Except Fault State :=
  if d.header.misplaced d.frameClass then .ok s
  else if !d.header.isFor s.ctl.number then .ok s
  else if d.header.malformed s.ctl.count then
    if d.header.owedReply then .ok (s.answer d.header .refusedMalformed []) else .ok s
  else s.handOn d

/-- A delivery past the line interface (R18, R22): the station controller and the presence table take it first, then
it is judged. -/
def State.deliver (s : State) (d : Delivery) : Except Fault State :=
  if !s.onLine then .ok s
  else if !d.headerGood then .ok (s.headerFails d.frameClass)
  else
    let t := { s with ctl := s.ctl.takeHeader d.frameClass d.header }
    (t.presenceTakes d.header).judge d

end Sys2Proof.Machine
end

