-- ==== Sys2Proof/Machine/Line.lean ====
section
/-! DEFINITION. The events of the line interface (chapter 1): activity, frames, disturbances, collisions, the stuck
condition, exchange ends, slots, replies. An event that the line activity state does not let happen changes nothing
(log 6). -/

namespace Sys2Proof.Machine

/-! ### Activity -/

/-- The class of a frame that starts now (R7): reply within R bit times after a contention-class frame end. -/
def LineInterface.classNow (x : LineInterface) : FrameClass := if x.gap.isSome then .reply else .contention

/-- The first active half-bit after an idle line, driven by another station (R3, R7, R9, R15): RECEIVING, the activity
mark set, the class fixed, slot counting stopped, a new run; a reply that has not begun is not sent (R6). Activity that
comes less than a bit time after a frame end, before the line is idle, begins no new run (R2, R16); that it is taken as
the start of a frame is the model's choice (log 12). -/
def LineInterface.hear (x : LineInterface) : LineInterface :=
  { x with
    activity := .receiving, frameOver := false, activityMark := true, slots := .stopped, idleTime := some 0,
    rxClass := x.classNow, reply := none, runTime := if x.frameOver then x.runTime else 0 }

/-- FIRST_ACTIVE_HALF_BIT (R3, R9, R15, R38). -/
def execFirstActiveHalfBit (s : State) : Host.Outcome State Fault Refusal :=
  event s fun s =>
    if s.line.released ∧ s.line.stuck = false then { s with line := s.line.hear, ctl := s.ctl.activity } else s

/-- The line becomes IDLE (R15): the run count starts from zero at the next activity. `since` is the idle time already
passed since the last activity. -/
def LineInterface.goIdle (x : LineInterface) (since : Nat) : LineInterface :=
  { x with activity := .idle, frameOver := false, runTime := 0, idleTime := some since }

/-- The end of the stuck condition (R16): the first exchange end comes R bit times later. DESIGN CHOICE (log 32): these
are counted from the end of the condition, one bit time after the last activity, from which R2 and R8 count. -/
def LineInterface.endStuck (x : LineInterface) : LineInterface := { x.goIdle 0 with stuck := false }

/-- The line has been released for one bit time (R2, R15, R19): IDLE from DISTURBED or after a frame end. In the stuck
condition this ends the condition (R16). -/
def LineInterface.idleBitTime (x : LineInterface) : LineInterface :=
  if x.stuck then x.endStuck
  else if x.frameOver then x.goIdle 1
  else if x.activity = .disturbed then x.goIdle (if x.idleTime.isSome then 1 else 0)
  else x

/-- The silence timer when the line is found idle (R2, R38): it counts from the last activity, so it stands at one bit
time at least where the last activity is known to be one bit time ago. -/
def StationController.idleBitTime (c : StationController) (x : LineInterface) : StationController :=
  if x.stuck ∨ x.frameOver ∨ x.activity = .disturbed ∧ x.idleTime.isSome then
    { c with silence := c.silence.map fun t => max t 1 }
  else c

/-- LINE_IDLE (R2, R15, R38). -/
def execLineIdle (s : State) : Host.Outcome State Fault Refusal :=
  event s fun s => { s with line := s.line.idleBitTime, ctl := s.ctl.idleBitTime s.line }

/-! ### Frames of other stations -/

/-- The gap that follows a frame end of class `k` (R7). -/
def gapAfter (k : FrameClass) : Option Nat :=
  match k with
  | .contention => some 0
  | .reply => none

/-- A frame end in RECEIVING (R4, R18). -/
def LineInterface.frameEnds (x : LineInterface) : LineInterface :=
  { x with frameOver := true, idleTime := some 0, gap := gapAfter x.rxClass, reply := none }

/-- A frame is being taken in. -/
def LineInterface.takingIn (x : LineInterface) : Bool := x.activity == .receiving && !x.frameOver

/-- The frame end of the words taken in (R4, R18, R52), after the take of the delivery before it has come to its end.
DESIGN CHOICE (log 7): the event queue takes what the delivery itself makes pending only at its end. So completions that
an order or an abandonment within the delivery adds to a port stand in its list when the DATA of the same delivery is
judged, which is then answered BUSY-PENDING (R121) also where the queue has a free entry. -/
def State.frameDelivered (s : State) (frame : FrameEnd) : Except Fault State :=
  if s.line.takingIn then
    let t := s.settleTake
    match { t with line := t.line.frameEnds, ctl := t.ctl.activity }.deliver
        (delivery t.line.rxClass t.time frame.words) with
    | .error e => .error e
    | .ok u => .ok (u.servesTake frame.pause).fill
  else .ok s

/-- FRAME_DELIVERY (R18). -/
def execFrameDelivery (frame : FrameEnd) (s : State) : Host.Outcome State Fault Refusal :=
  eventWithAccess s fun s => s.frameDelivered frame

/-- The line is active with no frame being taken in or sent (R14, R15). -/
def LineInterface.disturb (x : LineInterface) : LineInterface :=
  { x with activity := .disturbed, frameOver := false, idleTime := some 0 }

/-- LINE_DISTURBANCE (R14): the frame is dropped, DISTURBED is entered and an observed collision notice handed. -/
def execLineDisturbance (s : State) : Host.Outcome State Fault Refusal :=
  event s fun s =>
    if s.line.takingIn then
      { s with line := s.line.disturb, ctl := s.ctl.activity }.observedCollision.fill
    else s

/-! ### Own frames -/

/-- The own frame is being driven. -/
def LineInterface.driving (x : LineInterface) : Bool := x.activity == .sending && !x.frameOver

/-- The own frame has been driven to its end (R6). -/
def LineInterface.ownFrameEnds (x : LineInterface) (k : FrameClass) : LineInterface :=
  { x with frameOver := true, idleTime := some 0, gap := gapAfter k, tx := none }

/-- The own frame completion of a contention frame at the station controller (R32), outside OFFLINE and FAULTED. -/
def State.ownCompletion (s : State) (header : Header) : State :=
  if s.onLine then
    { s with
      ctl := { s.ctl with last := some s.ctl.number, ownCollisions := 0, beacon := some 0 }
      sched :=
        { s.sched with
          beaconDue := false
          pendingAnnounce := if header.kind = some .announce then false else s.sched.pendingAnnounce } }
  else s

/-- The last half-bit of the own frame has been read back without mismatch (R6, R12, R32, R64). -/
def State.ownFrameEnds (s : State) (t : Transmission) : State :=
  let u := { s with line := s.line.ownFrameEnds t.frameClass, ctl := s.ctl.activity }
  match t.frameClass with
  | .reply => u
  | .contention => { u with sched := u.sched.mapExchange ExchangeRecord.completed }.ownCompletion t.header

/-- OWN_FRAME_COMPLETION (R32). -/
def execOwnFrameCompletion (s : State) : Host.Outcome State Fault Refusal :=
  event s fun s =>
    if s.line.driving then
      match s.line.tx with
      | some t => s.ownFrameEnds t
      | none => s
    else s

/-- The transmitter stops its frame and begins a jam (R5, R13). -/
def LineInterface.beginJam (x : LineInterface) : LineInterface :=
  { x with activity := .jamming, frameOver := false, tx := none, txTime := 0, idleTime := some 0 }

/-- A read-back mismatch in the own frame (R13): for a contention frame the collision outcome goes to the scheduler and
an own collision notice to the station controller (R22, R36, R65); the observed collision notice follows (R14, R33). -/
def State.collide (s : State) (t : Transmission) : State :=
  let u := { s with line := s.line.beginJam, ctl := s.ctl.activity }
  match t.frameClass with
  | .reply => u.observedCollision
  | .contention =>
    let v := { u with sched := u.sched.mapExchange ExchangeRecord.collided }
    (if v.onLine then v.ownCollision else v).observedCollision

/-- READ_BACK_MISMATCH (R13). -/
def execReadBackMismatch (s : State) : Host.Outcome State Fault Refusal :=
  event s fun s =>
    if s.line.driving then
      match s.line.tx with
      | some t => (s.collide t).fill
      | none => s
    else s

/-- JAM_END (R5, R15): DISTURBED, or IDLE if the line is already released. -/
def execJamEnd (released : Bool) (s : State) : Host.Outcome State Fault Refusal :=
  event s fun s =>
    if s.line.activity = .jamming then
      { s with line := if released then s.line.goIdle 0 else s.line.disturb, ctl := s.ctl.activity }
    else s

/-! ### The stuck condition (R16, R17) -/

/-- A run of activity is under way. -/
def LineInterface.running (x : LineInterface) : Bool := x.activity != .idle && !x.frameOver

/-- The stuck condition begins (R16): LINE FAULT is set, any transmission stops without a jam, any frame being taken in
is dropped, a reply that has not begun is not sent (R54). -/
def LineInterface.beginStuck (x : LineInterface) : LineInterface :=
  { x.disturb with stuck := true, lineFault := true, tx := none, reply := none, runTime := Config.stuckLimit + 1 }

/-- STUCK_CONDITION (R16, R37, R68). -/
def execStuckCondition (s : State) : Host.Outcome State Fault Refusal :=
  event s fun s =>
    if s.line.running ∧ s.line.stuck = false then
      { s with
        line := s.line.beginStuck
        ctl := s.ctl.activity
        sched := s.sched.mapExchange ExchangeRecord.stuck }.stuckNotice.fill
    else s

/-- STUCK_CONDITION_END (R16). -/
def execStuckConditionEnd (s : State) : Host.Outcome State Fault Refusal :=
  event s fun s =>
    if s.line.stuck then { s with line := s.line.endStuck, ctl := s.ctl.idleBitTime s.line } else s

/-! ### Exchange ends and slots -/

/-- The exchange end at the line interface (R8, R9): the activity mark is cleared and slot counting begins. A reply
still waiting has missed its start point (R6). DESIGN CHOICE (log 33): the reply gap (R7) is over, so activity taken after
the exchange end, though it begin exactly R bit times after a contention frame end, is of contention class. -/
def LineInterface.exchangeEnds (x : LineInterface) : LineInterface :=
  { x.goIdle Config.replyGap with activityMark := false, slots := .beforeSlot0 0, gap := none, reply := none }

/-- EXCHANGE_END (R8, R69). -/
def execExchangeEnd (s : State) : Host.Outcome State Fault Refusal :=
  event s fun s =>
    if s.line.released ∧ s.line.stuck = false ∧ s.line.activityMark then
      ({ s with line := s.line.exchangeEnds }.closeExchange).fill
    else s

/-- The slot phase of the next slot on a line of `n` stations (R9). -/
def LineInterface.nextPhase (x : LineInterface) (n : Nat) : Nat :=
  match x.slots, x.slotPhase with
  | .inSlot _, some p => if p + 1 < n then p + 1 else 0
  | _, _ => 0

/-- The own station may begin a contention frame in a slot of phase `phase` (R11). -/
def State.mayBegin (s : State) (phase : Nat) : Bool :=
  s.onLine && s.ctl.sync == .synced && phase == s.ctl.rank

/-- A slot starts (R9, R11). -/
def State.slotStarts (s : State) : State :=
  let phase := s.line.nextPhase s.ctl.count
  let t := { s with line := { s.line with slotPhase := some phase, slots := .inSlot 0 } }
  if t.mayBegin phase then t.turn else t

/-- SLOT_START (R9). -/
def execSlotStart (s : State) : Host.Outcome State Fault Refusal :=
  event s fun s =>
    if s.line.activity = .idle ∧ s.line.stuck = false ∧ s.line.activityMark = false ∧ s.line.slots ≠ .stopped then
      s.slotStarts
    else s

/-- REPLY_START (R6, R54, R55): the reply begins with the epoch as it stands. It is not sent after activity, in the stuck
condition, off the line, or while the answering block's take is in progress; the take goes on. -/
def execReplyStart (s : State) : Host.Outcome State Fault Refusal :=
  event s fun s =>
    match s.line.reply with
    | some r =>
      if s.line.released ∧ s.line.stuck = false ∧ s.onLine ∧ s.mem.take.isNone then
        { s with
          line := s.line.begin (replyFrame s.ctl.number s.ctl.epoch r)
          ctl := s.ctl.activity }
      else { s with line := { s.line with reply := none } }
    | none => s

end Sys2Proof.Machine
end

