-- ==== Sys2Proof/Machine/Clock.lean ====
section
/-! DEFINITION. The idle step (log 4): with no command waiting, one bit time passes. Every count of the part that runs
counts it, and each count that comes to its limit, and each claim that waits inside the part, hands its own command to
the queue. -/

namespace Sys2Proof.Machine

/-- One bit time of a count that acts at `limit`: it stands one short of it until its command acts. -/
def countTo (limit t : Nat) : Nat := if t + 1 < limit then t + 1 else t

/-- The commands that a condition hands. -/
def handedIf (b : Bool) (i : Instr) : List Instr := if b then [i] else []

/-- A count that may be stopped reaches `limit`. -/
def reachesOpt (limit : Nat) (t : Option Nat) : Bool := t.any (reaches limit)

/-! ### The line interface -/

/-- The bit times of a frame on the line (R42). -/
def Transmission.time (t : Transmission) : Nat :=
  frameTime (if t.payload.isEmpty then 5 else 6 + t.payload.length)

/-- What is being driven ends after this many bit times (R5, R42). -/
def LineInterface.drivenTime (x : LineInterface) : Nat :=
  match x.activity, x.tx with
  | .sending, some t => t.time
  | _, _ => Config.jamLength

/-- One bit time of slot counting (R9). -/
def SlotCount.tick : SlotCount → SlotCount
  | .stopped => .stopped
  | .beforeSlot0 t => .beforeSlot0 (countTo Config.idleGap t)
  | .inSlot t => .inSlot (countTo Config.slotLength t)

/-- The next slot starts with this bit time (R9). -/
def SlotCount.starts : SlotCount → Bool
  | .stopped => false
  | .beforeSlot0 t => reaches Config.idleGap t
  | .inSlot t => reaches Config.slotLength t

/-- One bit time of the reply gap (R7): more than R bit times after the frame end there is no gap. -/
def gapTick (g : Option Nat) : Option Nat :=
  match g with
  | some t => if t < Config.replyGap then some (t + 1) else none
  | none => none

/-- One bit time of the wait for a reply's start point (R6). -/
def PendingReply.tick (r : PendingReply) : PendingReply := { r with waited := countTo Config.replyStart r.waited }

/-- One bit time at the line interface. A run of activity goes on until the line is idle (R2, R16). -/
def LineInterface.tick (x : LineInterface) : LineInterface :=
  if x.released then
    { x with
      idleTime := x.idleTime.map (countTo Config.replyGap)
      runTime := if x.frameOver then countTo (Config.stuckLimit + 1) x.runTime else x.runTime
      gap := gapTick x.gap
      slots := x.slots.tick
      reply := x.reply.map PendingReply.tick }
  else
    { x with
      gap := gapTick x.gap
      runTime := countTo (Config.stuckLimit + 1) x.runTime
      txTime := countTo x.drivenTime x.txTime }

/-- The commands the line interface hands with this bit time (R5, R6, R8, R9, R15, R16). -/
def LineInterface.due (x : LineInterface) : List Instr :=
  if x.released then
    handedIf x.frameOver .lineIdle ++
      handedIf (x.reply.any fun r => reaches Config.replyStart r.waited) .replyStart ++
      handedIf (x.activityMark && reachesOpt Config.replyGap x.idleTime) .exchangeEnd ++
      handedIf x.slots.starts .slotStart
  else
    handedIf (x.activity == .sending && reaches x.drivenTime x.txTime) .ownFrameCompletion ++
      handedIf (x.activity == .jamming && reaches x.drivenTime x.txTime) (.jamEnd false) ++
      handedIf (!x.stuck && reaches (Config.stuckLimit + 1) x.runTime) .stuckCondition

/-! ### The other counts -/

/-- Bit times in one microsecond (Table 0.3). -/
def bitsPerMicro (rate : Fin 4) : Nat :=
  match rate with
  | 0 => 1
  | 1 => 2
  | 2 => 5
  | 3 => 10

/-- This bit time completes a microsecond of the time base (log 24). -/
def State.microEnds (s : State) : Bool := decide (bitsPerMicro s.ctl.rate ≤ s.time.subMicro + 1)

/-- One bit time of the time base (R163). -/
def State.tickTime (s : State) : TimeBase :=
  if s.microEnds then { micros := s.time.micros + 1, subMicro := 0 }
  else { s.time with subMicro := s.time.subMicro + 1 }

/-- One bit time of the station controller's timers (R38, R39): the silence timer stands at 0 while the line is
active. -/
def StationController.tick (c : StationController) (released : Bool) : StationController :=
  { c with
    silence := c.silence.map fun t => if released then countTo Config.silenceInterval t else 0
    beacon := c.beacon.map (countTo Config.beaconInterval) }

/-- One bit time of a lane's timers (R82, R102); the wait timer counts microseconds. -/
def Lane.tick (l : Lane) (micro : Bool) : Lane :=
  { l with
    hold := l.hold.map (countTo Config.busyHold)
    wait := if micro then l.wait.map (countTo l.timeLimit) else l.wait }

/-- One bit time of a context's timer (R122). -/
def Context.tick (c : Context) : Context := { c with age := countTo Config.contextTimeout c.age }

/-- The presence timer of a record runs (R143): PRESENT, in ACTIVE or LEAVING. -/
def State.presenceRuns (s : State) (p : Fin 32) : Bool := s.onLine && s.presence.records[p].state == .present

/-- One bit time of the presence timers (R143). -/
def State.tickPresence (s : State) : PresenceTable :=
  { s.presence with
    records := Vector.ofFn fun p =>
      if s.presenceRuns p then
        { s.presence.records[p] with heard := s.presence.records[p].heard.map (countTo Config.presenceTimeout) }
      else s.presence.records[p] }

/-- The commands lane `i` hands: its timers' expiries, and its claims at the flag unit. -/
def Lane.due (l : Lane) (i : Fin 8) (micro : Bool) : List Instr :=
  handedIf (l.state == .held && reachesOpt Config.busyHold l.hold) (.holdTimerExpiry i) ++
    handedIf (micro && l.state == .waiting && reachesOpt l.timeLimit l.wait) (.waitTimerExpiry i) ++
    handedIf l.expiryHanded (.waitExpiryTake i) ++
    handedIf l.removalHanded (.waitRemovalTake i) ++
    handedIf (l.state == .working && l.job == .waitRequest) (.waitRequestTake i) ++
    handedIf (l.state == .working && l.job == .flagRequest) (.flagRequestTake i)

/-- The take of the waiting command (R166). -/
def HostPort.due (h : HostPort) : List Instr :=
  match h.owner with
  | .host => []
  | .station =>
    match h.code.toNat with
    | 0 => []
    | 1 => [.join]
    | 2 => [.leave]
    | 3 => [.startLane]
    | 4 => [.stopLane]
    | 5 => [.openPort]
    | 6 => [.closePort]
    | 7 => [.postReceive]
    | 8 => [.loadWindow]
    | 9 => [.clearWindow]
    | 10 => [.setFlags]
    | 11 => [.clearFlags]
    | 12 => [.setSignalMasks]
    | _ => [.unknownCommand]

/-- Every command that this bit time hands, in the order the model fixes (log 4). -/
def State.due (s : State) : List Instr :=
  s.line.due ++
    handedIf (s.line.released && reachesOpt Config.silenceInterval s.ctl.silence) .silenceTimerExpiry ++
    handedIf (reachesOpt Config.beaconInterval s.ctl.beacon) .beaconTimerExpiry ++
    (List.finRange 8).flatMap (fun i => s.lanes[i].due i s.microEnds) ++
    (List.finRange 12).flatMap (fun i =>
      handedIf (s.recv.contexts[i].any fun c => reaches Config.contextTimeout c.age) (.contextTimerExpiry i)) ++
    (List.finRange 32).flatMap (fun p =>
      handedIf (s.presenceRuns p && reachesOpt Config.presenceTimeout s.presence.records[p].heard)
        (.presenceTimerExpiry p)) ++
    handedIf s.claimWaits .laneWordAccess ++
    s.host.due

/-- One bit time with no command waiting; while reset is held nothing counts (R19, R163). A take in progress makes its
next claim (R160; log 27). -/
def State.tick (s : State) : State :=
  if s.resetHeld then s
  else
    { s with
      line := s.line.tick
      ctl := s.ctl.tick s.line.released
      lanes := s.lanes.map fun l => l.tick s.microEnds
      recv := { s.recv with contexts := s.recv.contexts.map fun c => c.map Context.tick }
      presence := s.tickPresence
      mem := { s.mem with take := s.mem.take.map fun k => { k with claimed := true } }
      time := s.tickTime
      pending := s.pending ++ s.due }

end Sys2Proof.Machine
end

