-- ==== Sys2Proof/Machine/Reset.lean ====
section
/-! DEFINITION. Resets (R19, R21, R56, R73, R96, R97, R109, R128, R130, R148, R149, R168). The commands still waiting in
the queue are the sender's and are left to it. -/

namespace Sys2Proof.Machine

/-- POWER_ON_RESET (R21): every block takes its power-on values, the epoch is 0, the contents of buffer memory are
undefined (log 3), and reset is held. -/
def execPowerOnReset (s : State) : Host.Outcome State Fault Refusal := .next { State.reset with pending := s.pending }

/-- PIN_RESET (R21, R168): every block is reset except the epoch and buffer memory. -/
def execPinReset (s : State) : Host.Outcome State Fault Refusal :=
  .next
    { State.reset with
      ctl := { StationController.reset with epoch := s.ctl.epoch }
      mem := { BufferMemory.reset with cells := s.mem.cells }
      pending := s.pending }

/-- RESET_RELEASE (R19, R20, R163): while reset is held, the straps are sampled and the part starts; the line interface
is DISTURBED with the activity mark set, and the time base starts from 0. -/
def execResetRelease (sid scn : BitVec 5) (srt : BitVec 2) (s : State) : Host.Outcome State Fault Refusal :=
  .next
    (if s.resetHeld then
      { s with
        resetHeld := false
        ctl := { s.ctl with number := sid.toFin, count := scn.toNat + 1, rate := srt.toFin }
        line := LineInterface.reset
        time := TimeBase.reset }
    else s)

end Sys2Proof.Machine
end

