-- ==== Sys2Proof/Machine/Dispatch.lean ====
section
/-! DEFINITION. The meaning of every command: one arm per row of spec/opcode_table.json. -/

namespace Sys2Proof.Machine

def exec (i : Instr) (s : State) : Host.Outcome State Fault Refusal :=
  match i with
  | .powerOnReset => Sys2Proof.Machine.execPowerOnReset s
  | .pinReset => Sys2Proof.Machine.execPinReset s
  | .resetRelease sid scn srt => Sys2Proof.Machine.execResetRelease sid scn srt s
  | .frameDelivery frame => Sys2Proof.Machine.execFrameDelivery frame s
  | .lineDisturbance => Sys2Proof.Machine.execLineDisturbance s
  | .readBackMismatch => Sys2Proof.Machine.execReadBackMismatch s
  | .jamEnd released => Sys2Proof.Machine.execJamEnd released s
  | .lineIdle => Sys2Proof.Machine.execLineIdle s
  | .stuckCondition => Sys2Proof.Machine.execStuckCondition s
  | .stuckConditionEnd => Sys2Proof.Machine.execStuckConditionEnd s
  | .exchangeEnd => Sys2Proof.Machine.execExchangeEnd s
  | .drainComplete => Sys2Proof.Machine.execDrainComplete s
  | .slotStart => Sys2Proof.Machine.execSlotStart s
  | .replyStart => Sys2Proof.Machine.execReplyStart s
  | .ownFrameCompletion => Sys2Proof.Machine.execOwnFrameCompletion s
  | .silenceTimerExpiry => Sys2Proof.Machine.execSilenceTimerExpiry s
  | .beaconTimerExpiry => Sys2Proof.Machine.execBeaconTimerExpiry s
  | .holdTimerExpiry lane => Sys2Proof.Machine.execHoldTimerExpiry lane s
  | .waitTimerExpiry lane => Sys2Proof.Machine.execWaitTimerExpiry lane s
  | .waitExpiryTake lane => Sys2Proof.Machine.execWaitExpiryTake lane s
  | .waitRequestTake lane => Sys2Proof.Machine.execWaitRequestTake lane s
  | .flagRequestTake lane => Sys2Proof.Machine.execFlagRequestTake lane s
  | .waitRemovalTake lane => Sys2Proof.Machine.execWaitRemovalTake lane s
  | .contextTimerExpiry entry => Sys2Proof.Machine.execContextTimerExpiry entry s
  | .presenceTimerExpiry station => Sys2Proof.Machine.execPresenceTimerExpiry station s
  | .laneWordAccess => Sys2Proof.Machine.execLaneWordAccess s
  | .queueTake => Sys2Proof.Machine.execQueueTake s
  | .hostMemoryWrite address strobe => Sys2Proof.Machine.execHostMemoryWrite address strobe s
  | .writeInterruptEnables value => Sys2Proof.Machine.execWriteInterruptEnables value s
  | .writeCauses value => Sys2Proof.Machine.execWriteCauses value s
  | .eventAcknowledge value => Sys2Proof.Machine.execEventAcknowledge value s
  | .timeBaseLowRead => Sys2Proof.Machine.execTimeBaseLowRead s
  | .controlPageWrite page value => Sys2Proof.Machine.execControlPageWrite page value s
  | .join => Sys2Proof.Machine.execJoin s
  | .leave => Sys2Proof.Machine.execLeave s
  | .startLane => Sys2Proof.Machine.execStartLane s
  | .stopLane => Sys2Proof.Machine.execStopLane s
  | .openPort => Sys2Proof.Machine.execOpenPort s
  | .closePort => Sys2Proof.Machine.execClosePort s
  | .postReceive => Sys2Proof.Machine.execPostReceive s
  | .loadWindow => Sys2Proof.Machine.execLoadWindow s
  | .clearWindow => Sys2Proof.Machine.execClearWindow s
  | .setFlags => Sys2Proof.Machine.execSetFlags s
  | .clearFlags => Sys2Proof.Machine.execClearFlags s
  | .setSignalMasks => Sys2Proof.Machine.execSetSignalMasks s
  | .unknownCommand => Sys2Proof.Machine.execUnknownCommand s
  | .firstActiveHalfBit => Sys2Proof.Machine.execFirstActiveHalfBit s
  | .commandWordWrite value => Sys2Proof.Machine.execCommandWordWrite value s

end Sys2Proof.Machine
end

