-- ==== Sys2Proof/Safety.lean ====
section
/-! DEFINITION. What a safe run is, in the terms the statements use: the conditions that the book says hold of the part at
every moment. Each is a proposition on one state; that reset has it and every step keeps it are statements of
Certificates/Slice0/Obligations.lean. -/

namespace Sys2Proof

/-- A command that acts while reset is held (R19, R20, R21). -/
def Instr.isReset : Instr → Bool
  | .powerOnReset | .pinReset | .resetRelease _ _ _ => true
  | _ => false

/-- A command that comes from inside the part: a count at its limit, or a claim or command that waits there. -/
def Instr.arisesInside : Instr → Bool
  | .lineIdle | .stuckCondition | .exchangeEnd | .slotStart | .replyStart | .ownFrameCompletion | .jamEnd _
  | .silenceTimerExpiry | .beaconTimerExpiry | .holdTimerExpiry _ | .waitTimerExpiry _ | .waitExpiryTake _
  | .waitRequestTake _ | .flagRequestTake _ | .waitRemovalTake _ | .contextTimerExpiry _ | .presenceTimerExpiry _
  | .laneWordAccess | .join | .leave | .startLane | .stopLane | .openPort | .closePort | .postReceive | .loadWindow
  | .clearWindow | .setFlags | .clearFlags | .setSignalMasks | .unknownCommand => true
  | _ => false

/-- A command that may find a line-side take in progress completed first: an event at the receive unit or the window
unit, or one by which the station may leave the line (log 27). -/
def Instr.completesTake : Instr → Bool
  | .frameDelivery _ | .contextTimerExpiry _ | .presenceTimerExpiry _ | .openPort | .closePort | .postReceive
  | .loadWindow | .clearWindow | .leave | .drainComplete | .exchangeEnd | .laneWordAccess | .readBackMismatch => true
  | _ => false

end Sys2Proof

namespace Sys2Proof.Machine

/-! ### Buffer memory and the event queue -/

/-- Buffer memory is in its canonical form, and the accesses of a take in progress stay inside it (log 14). -/
def State.memoryCanonical (s : State) : Prop := s.mem.wf = true

/-- The event queue never holds more than 64 entries (R149). -/
def State.queueBounded (s : State) : Prop := s.queue.entries.length ≤ Config.queueSize

/-! ### Off the line (R22, R27, R28, R126) -/

/-- In OFFLINE and FAULTED sync is UNSYNCED, last is NONE, the silence and beacon timers are stopped, the two marks of
the scheduler are clear, no reply is owed, no take is in progress and no context is open. -/
def State.quietOffLine (s : State) : Prop :=
  s.onLine = false →
    s.ctl.sync = .unsynced ∧ s.ctl.last = none ∧ s.ctl.silence = none ∧ s.ctl.beacon = none ∧
      s.sched.pendingAnnounce = false ∧ s.sched.beaconDue = false ∧ s.line.reply = none ∧
      s.mem.take = none ∧ ∀ i : Fin 12, s.recv.contexts[i] = none

/-! ### The receive unit (R109, R110, R114) -/

/-- No port counts more than 8 buffers (R110). -/
def State.portsBounded (s : State) : Prop := ∀ p : Fin 16, s.recv.bufferCount p ≤ Config.portBuffers

/-- A buffer lies inside buffer memory (Table 7.2). -/
def Buffer.inside (b : Buffer) : Prop := b.address + b.capacity ≤ Config.memoryWords

/-- An open context between two events (R114): the words stored are 32 times the next segment index, that index is not
the segment count yet, the message fits its buffer and the buffer lies inside buffer memory. -/
def Context.consistent (c : Context) : Prop :=
  c.stored = 32 * c.next ∧ 1 ≤ c.next ∧ c.next < segmentCount c.length ∧ c.length ≤ c.buffer.capacity ∧
    c.buffer.inside

/-- The segment store in progress fits the receive unit (R119, R121): `c`, the context after the segment, is complete or
consistent; with `opens` its entry is free, no open context has its key, and its buffer is at the head of its port;
otherwise its entry holds it with one segment less. -/
def ReceiveUnit.storeFits (r : ReceiveUnit) (i : Fin 12) (c : Context) (opens : Bool) : Prop :=
  (c.next = segmentCount c.length ∨ c.consistent) ∧
    if opens then
      r.contexts[i] = none ∧ r.ports[c.port].posted.head? = some c.buffer ∧
        ∀ (j : Fin 12) d, r.contexts[j] = some d → ¬(d.source = c.source ∧ d.lane = c.lane)
    else ∃ d, r.contexts[i] = some d ∧ d.source = c.source ∧ d.lane = c.lane ∧ d.port = c.port ∧ d.buffer = c.buffer

/-- The take in progress, if it is a segment store, fits the receive unit. -/
def State.takeFits (s : State) : Prop :=
  ∀ k rest i c opens, s.mem.take = some k → k.work = .store rest (.segment i c opens) → s.recv.storeFits i c opens

/-- Every posted buffer lies inside buffer memory, every open context is consistent, no two open contexts have the same
key (R114), and a segment store in progress fits them. -/
def State.receiveConsistent (s : State) : Prop :=
  (∀ p : Fin 16, ∀ b ∈ s.recv.ports[p].posted, b.inside) ∧
    (∀ i : Fin 12, ∀ c, s.recv.contexts[i] = some c → c.consistent) ∧
    (∀ i j : Fin 12, ∀ c d, s.recv.contexts[i] = some c → s.recv.contexts[j] = some d →
      c.source = d.source → c.lane = d.lane → i = j) ∧
    s.takeFits

/-! ### Windows (Table 8.1) -/

/-- Every window entry lies inside buffer memory. -/
def State.windowsInside (s : State) : Prop :=
  ∀ w : Fin 8, s.windows[w].base + s.windows[w].length ≤ Config.memoryWords

/-! ### Flags and waits (R98) -/

/-- A wait list that holds an entry belongs to a flag that is clear (R98). -/
def State.setFlagsUnwaited (s : State) : Prop := ∀ f : Fin 32, s.flags.isSet f = true → s.flags.lists[f] = []

/-- The number of entries for lane `i` on the wait list of flag `f`. -/
def State.timesListed (s : State) (i : Fin 8) (f : Fin 32) : Nat := s.flags.lists[f].countP fun e => e.lane == i

/-- A lane is on a flag wait list exactly while it is in WAITING, then on the list of its own WAIT's flag only, and once
(R98). -/
def State.waitersListed (s : State) : Prop :=
  ∀ (i : Fin 8) (f : Fin 32),
    s.timesListed i f = if s.lanes[i].state = .waiting ∧ s.lanes[i].flag = f then 1 else 0

/-- A lane that holds an event is in REPORTING (R92). -/
def State.holdersReport (s : State) : Prop := ∀ i : Fin 8, s.lanes[i].heldEvent.isSome = true → s.lanes[i].state = .reporting

/-- The lane that owns the open exchange is in EXCHANGE (R62). -/
def State.ownerInExchange (s : State) : Prop :=
  ∀ x, s.sched.exchange = some x → ∀ i, x.owner = .lane i → s.lanes[i].state = .exchange

/-- The three conditions on where the lanes are, which every step keeps together. -/
def State.lanesPlaced (s : State) : Prop := s.waitersListed ∧ s.holdersReport ∧ s.ownerInExchange

/-! ### The word accesses of the lanes (R77, R78, R80, R84, R90) -/

/-- What validation gives a descriptor copy that names a range of buffer memory (R78). -/
def Lane.copyInside (l : Lane) : Prop :=
  (l.kind = some .send → 1 ≤ l.length ∧ l.bufferAddress + l.length ≤ Config.memoryWords) ∧
    (l.kind = some .read ∨ l.kind = some .write → 1 ≤ l.length ∧ l.bufferAddress + l.length ≤ Config.memoryWords)

/-- The words a lane may still access in what it is doing lie inside buffer memory; a copy being fetched is not
validated. -/
def Lane.jobInside (l : Lane) : Prop :=
  match l.job with
  | .fetch _ => l.validated = false
  | .readPayload got =>
    l.validated = true ∧ got.length < l.payloadWanted ∧ l.payloadBase + l.payloadWanted ≤ Config.memoryWords
  | .storeRead offset rest => l.bufferAddress + offset + rest.length ≤ Config.memoryWords
  | _ => True

/-- A lane accesses buffer memory only inside it: its descriptor address is 0..16376, a validated copy names a range
inside, a lane with a frame on offer, in its exchange or held has a validated copy, and so has the work under way. -/
def Lane.accessesInside (l : Lane) : Prop :=
  l.address ≤ Config.lastDescriptor ∧ (l.validated = true → l.copyInside) ∧
    (l.state = .queued ∨ l.state = .exchange ∨ l.state = .held ∨ l.state = .cancelling → l.validated = true) ∧
    l.jobInside

/-- No access of the part can leave buffer memory. -/
def State.accessesInside (s : State) : Prop :=
  s.lanesPlaced ∧ s.receiveConsistent ∧ s.windowsInside ∧ ∀ i : Fin 8, s.lanes[i].accessesInside

/-! ### Terms of the statements -/

/-- The address the next word access of lane `i` stores to, if it stores (R77, R84, R90). -/
def State.laneStoreAddress (s : State) (i : Fin 8) : Option Nat :=
  match s.lanes[i].job with
  | .markInProgress => some (s.lanes[i].address + 7)
  | .storeRead offset (_ :: _) => some (s.lanes[i].bufferAddress + offset)
  | .writeProgress _ => some (s.lanes[i].address + 6)
  | .writeStatus _ => some (s.lanes[i].address + 7)
  | _ => none

/-- The phase of the slot that starts next (R9): 0 for slot 0 after an exchange end, then one more round by round. -/
def State.nextSlot (s : State) (p : Nat) : Prop :=
  (∃ t, s.line.slots = .beforeSlot0 t) ∧ p = 0 ∨
    ∃ t q, s.line.slots = .inSlot t ∧ s.line.slotPhase = some q ∧ p = if q + 1 < s.ctl.count then q + 1 else 0

/-- The delivery that a frame end of `words` gives (R4, R18, R47). -/
def State.incoming (s : State) (words : List Word) : Delivery := delivery s.line.rxClass s.time words

/-- The state at the frame end of a frame being taken in, before any block takes the delivery: the take of the delivery
before it is complete (R161, log 27), the line is released, the reply gap runs after a contention-class frame, and the silence
timer has restarted (R4, R7, R38). -/
def State.atFrameEnd (s : State) : State :=
  let t := s.settleTake
  { t with line := s.line.frameEnds, ctl := t.ctl.activity }

/-- The state when a delivery with a valid header comes to its judgement: the station controller and the presence
table have taken it, and any purge it ordered is complete (R18). -/
def State.afterHeader (s : State) (words : List Word) : State :=
  let d := s.incoming words
  let t := s.atFrameEnd
  ({ t with ctl := t.ctl.takeHeader d.frameClass d.header }).presenceTakes d.header

/-- A frame of `words` is being taken in and its delivery, with a valid header, is taken by an ACTIVE or LEAVING
station. -/
def State.delivers (s : State) (words : List Word) : Prop :=
  s.resetHeld = false ∧ s.line.activity = .receiving ∧ s.line.frameOver = false ∧ s.onLine = true ∧
    (s.incoming words).headerGood = true

/-- The delivery comes to its block: it is neither misplaced nor malformed, it is for this station and it has no
payload fault (R52, step 5). -/
def State.reachesBlock (s : State) (words : List Word) : Prop :=
  let d := s.incoming words
  s.delivers words ∧ d.header.misplaced d.frameClass = false ∧ d.header.isFor s.ctl.number = true ∧
    d.header.malformed s.ctl.count = false ∧ d.payloadFault = false

/-- The completion entries that port `q` gets when one event abandons every open context that satisfies `p` (R115): in
the order of the context table, lowest entry first. -/
def ReceiveUnit.abandonedEntries (r : ReceiveUnit) (st : ReceiveStatus) (p : Context → Bool) (q : Fin 16) :
    List Completion :=
  (List.finRange 12).filterMap fun i =>
    (r.contexts[i].filter fun c => p c && c.port == q).map fun c =>
      { buffer := c.buffer.address, status := st, length := c.stored, source := some c.source, message := some c.message }

/-- The take in progress stores to address `a`, now or later. -/
def State.takeStores (s : State) (a : Nat) : Prop :=
  ∃ k rest done, s.mem.take = some k ∧ k.work = .store rest done ∧ k.address ≤ a ∧ a < k.address + rest.length

/-- The slot after the take of a command (R166): the result is written, the owner is HOST again, COMMAND DONE is set. -/
def State.completed (s : State) (r : CommandResult) : State :=
  { s with host := { s.host with result := r, owner := .host, commandDone := true } }

/-- A command with this code waits in the slot and reset is not held (R165). -/
def State.commandWaits (s : State) (code : Nat) : Prop :=
  s.resetHeld = false ∧ s.host.owner = .station ∧ s.host.code.toNat = code

/-- The place of a source in the order the arbiter examines them (R152): 0 for the position after the pointer, 34 for
the pointer's own. -/
def sourcePlace (pointer pos : Fin 35) : Nat := (pos.val + 34 - pointer.val) % 35

/-- The round-robin place of lane `i` after the pointer `p`: 0 for the lane after it, 7 for the pointer's own lane
(R59, R160). -/
def turnPlace (p i : Fin 8) : Nat := (i.val + 7 - p.val) % 8

end Sys2Proof.Machine
end

