-- ==== Sys2Proof/Certificates/Slice0/Obligations.lean ====
section
/-! DEFINITION. The statements for the provers. Each docstring names the rule of spec/ that the statement formalises;
where a clause rests on a choice of the model, the docstring names the log entry.

`fill` after a result stands for the event queue's takes at the end of the same event (R152):
`QueueTakesOneReport` and `FillEndsFullOrIdle` say what it does. -/

open Sys2Proof Sys2Proof.Machine

/-! ### Steps -/

/-- The model's step (log 1): the command at the front of the queue is run with the queue's rest. -/
def Obligations.StepRunsFrontCommand : Prop :=
  ∀ (s : State) (c : Instr) (rest : List Instr),
    s.pending = c :: rest → step s = exec c { s with pending := rest }

/-- While reset is held no event but a reset has an effect (R19, R168; log 6). The idle step is the model's choice
(log 4): with no command waiting one bit time passes. Every count that runs moves by one, and holds one short of its
limit until its command acts (log 5); the silence timer is 0 while the line is not released; a take in progress makes
its next claim (log 27); the time base advances by one microsecond when the bit times of one have passed (R163; log 24).
Nothing else changes. The commands handed to the queue are those whose count comes to its limit with this bit time, and
the claims that wait inside the part; a command that only comes from outside is never handed. -/
def Obligations.IdleStepIsOneBitTime : Prop :=
  (∀ (s : State) (c : Instr), s.resetHeld = true → c.isReset = false → exec c s = .next s) ∧
  ∀ s : State, s.pending = [] →
    (s.resetHeld = true → step s = .next s) ∧
    (s.resetHeld = false → ∃ t, step s = .next t ∧
      let count (limit n : Nat) : Nat := if n + 1 < limit then n + 1 else n
      let due (limit : Nat) (n : Option Nat) : Prop := ∃ k, n = some k ∧ k < limit ∧ limit ≤ k + 1
      let released := s.line.released = true
      let micro := bitsPerMicro s.ctl.rate ≤ s.time.subMicro + 1
      let gap := s.line.gap.bind fun n => if n < 16 then some (n + 1) else none
      let heard (p : Fin 32) : Prop := s.onLine = true ∧ s.presence.records[p].state = .present
      t = { s with
        line := t.line
        ctl := { s.ctl with
          silence := s.ctl.silence.map fun n => if released then count 32768 n else 0
          beacon := s.ctl.beacon.map (count 16384) }
        lanes := t.lanes
        recv := { s.recv with contexts := t.recv.contexts }
        presence := { s.presence with records := t.presence.records }
        mem := { s.mem with take := s.mem.take.map fun k => { k with claimed := true } }
        time := t.time
        pending := t.pending } ∧
      (∀ i : Fin 8, t.lanes[i] = { s.lanes[i] with
        hold := s.lanes[i].hold.map (count 2048)
        wait := if micro then s.lanes[i].wait.map (count s.lanes[i].timeLimit) else s.lanes[i].wait }) ∧
      (∀ i : Fin 12, t.recv.contexts[i] = s.recv.contexts[i].map fun c => { c with age := count 262144 c.age }) ∧
      (∀ p : Fin 32, (heard p → t.presence.records[p] = { s.presence.records[p] with
          heard := s.presence.records[p].heard.map (count 65536) }) ∧
        (¬heard p → t.presence.records[p] = s.presence.records[p])) ∧
      (released → t.line = { s.line with
        idleTime := s.line.idleTime.map (count 16)
        runTime := if s.line.frameOver then count 1301 s.line.runTime else s.line.runTime
        gap := gap
        slots :=
          match s.line.slots with
          | .stopped => .stopped
          | .beforeSlot0 n => .beforeSlot0 (count 32 n)
          | .inSlot n => .inSlot (count 16 n)
        reply := s.line.reply.map fun r => { r with waited := count 8 r.waited } }) ∧
      (¬released → t.line = { s.line with
        gap := gap, runTime := count 1301 s.line.runTime, txTime := count s.line.drivenTime s.line.txTime }) ∧
      (¬micro → t.time = { micros := s.time.micros, subMicro := s.time.subMicro + 1 }) ∧
      (micro → t.time = { micros := s.time.micros + 1, subMicro := 0 }) ∧
      (∀ c ∈ t.pending, c.arisesInside = true) ∧
      (.lineIdle ∈ t.pending ↔ released ∧ s.line.frameOver = true) ∧
      (.replyStart ∈ t.pending ↔ released ∧ ∃ r, s.line.reply = some r ∧ r.waited = 7) ∧
      (.exchangeEnd ∈ t.pending ↔ released ∧ s.line.activityMark = true ∧ due 16 s.line.idleTime) ∧
      (.slotStart ∈ t.pending ↔ released ∧ (s.line.slots = .beforeSlot0 31 ∨ s.line.slots = .inSlot 15)) ∧
      (.ownFrameCompletion ∈ t.pending ↔
        ¬released ∧ s.line.activity = .sending ∧ due s.line.drivenTime (some s.line.txTime)) ∧
      (∀ b, .jamEnd b ∈ t.pending ↔
        b = false ∧ ¬released ∧ s.line.activity = .jamming ∧ due s.line.drivenTime (some s.line.txTime)) ∧
      (.stuckCondition ∈ t.pending ↔ ¬released ∧ s.line.stuck = false ∧ s.line.runTime = 1300) ∧
      (.silenceTimerExpiry ∈ t.pending ↔ released ∧ due 32768 s.ctl.silence) ∧
      (.beaconTimerExpiry ∈ t.pending ↔ due 16384 s.ctl.beacon) ∧
      (∀ i : Fin 8,
        (.holdTimerExpiry i ∈ t.pending ↔ s.lanes[i].state = .held ∧ due 2048 s.lanes[i].hold) ∧
        (.waitTimerExpiry i ∈ t.pending ↔
          micro ∧ s.lanes[i].state = .waiting ∧ due s.lanes[i].timeLimit s.lanes[i].wait) ∧
        (.waitExpiryTake i ∈ t.pending ↔ s.lanes[i].expiryHanded = true) ∧
        (.waitRemovalTake i ∈ t.pending ↔ s.lanes[i].removalHanded = true) ∧
        (.waitRequestTake i ∈ t.pending ↔ s.lanes[i].state = .working ∧ s.lanes[i].job = .waitRequest) ∧
        (.flagRequestTake i ∈ t.pending ↔ s.lanes[i].state = .working ∧ s.lanes[i].job = .flagRequest)) ∧
      (∀ i : Fin 12, .contextTimerExpiry i ∈ t.pending ↔ ∃ c, s.recv.contexts[i] = some c ∧ due 262144 (some c.age)) ∧
      (∀ p : Fin 32, .presenceTimerExpiry p ∈ t.pending ↔ heard p ∧ due 65536 s.presence.records[p].heard) ∧
      (.laneWordAccess ∈ t.pending ↔
        s.mem.take ≠ none ∨ s.host.claims ≠ [] ∨ ∃ i : Fin 8, s.lanes[i].claims = true) ∧
      (∀ c n, (c, n) ∈ [(Instr.join, 1), (.leave, 2), (.startLane, 3), (.stopLane, 4), (.openPort, 5), (.closePort, 6),
          (.postReceive, 7), (.loadWindow, 8), (.clearWindow, 9), (.setFlags, 10), (.clearFlags, 11),
          (.setSignalMasks, 12)] →
        (c ∈ t.pending ↔ s.host.owner = .station ∧ s.host.code.toNat = n)) ∧
      (.unknownCommand ∈ t.pending ↔ s.host.owner = .station ∧ 13 ≤ s.host.code.toNat))

/-! ### Resets -/

/-- R21: Table 2.1 after each reset, and the two marks of the scheduler. -/
def Obligations.ResetsOfTheStationController : Prop :=
  ∀ s : State, ∃ t u, exec .powerOnReset s = .next t ∧ exec .pinReset s = .next u ∧
    (∀ v ∈ [t, u], v.ctl.participation = .offline ∧ v.ctl.sync = .unsynced ∧ v.ctl.last = none ∧
      v.ctl.badHeaders = 0 ∧ v.ctl.ownCollisions = 0 ∧ v.ctl.silence = none ∧ v.ctl.beacon = none ∧
      v.ctl.reason = .none ∧ v.ctl.lineStatePending = false ∧
      v.sched.pendingAnnounce = false ∧ v.sched.beaconDue = false) ∧
    t.ctl.epoch = 0 ∧ u.ctl.epoch = s.ctl.epoch

/-- Every other block takes the same values after either reset (R57, R73, R96, R97, R128, R130, R140, R149, R160, R163,
R168); no claim and no take in progress is held across it (R160); a pin reset keeps every word of buffer memory (R168).
That the commands still waiting in the queue are kept is the model's choice (log 1), and the marks a lane holds beside
Table 5.1 are the model's (log 31). -/
def Obligations.ResetsOfTheOtherBlocks : Prop :=
  ∀ s : State, ∃ t u, exec .powerOnReset s = .next t ∧ exec .pinReset s = .next u ∧
    (∀ v ∈ [t, u], v.resetHeld = true ∧
      v.line.lineFault = false ∧ v.line.stuck = false ∧ v.line.tx = none ∧ v.line.reply = none ∧
      v.sched.rotation = 7 ∧ v.sched.reoffer = none ∧ v.sched.exchange = none ∧
      (∀ i : Fin 8, v.lanes[i] = Lane.reset) ∧
      v.flags.flags = 0 ∧ v.flags.accept = 0 ∧ v.flags.notify = 0 ∧ v.flags.signalled = 0 ∧
      (∀ f : Fin 32, v.flags.lists[f] = []) ∧
      (∀ p : Fin 16, v.recv.ports[p] = { isOpen := false, posted := [], completions := [] }) ∧
      (∀ i : Fin 12, v.recv.contexts[i] = none) ∧
      (∀ (p : Fin 32) (l : Fin 8), v.recv.stream p l = none) ∧
      (∀ w : Fin 8, v.windows[w] = Window.reset) ∧
      (∀ p : Fin 32, v.presence.records[p] = PresenceRecord.unknown) ∧ v.presence.changed = 0 ∧
      v.queue.entries = [] ∧ v.queue.serial = 0 ∧ v.queue.pointer = 34 ∧
      v.host.owner = .host ∧ v.host.code = 0 ∧ (∀ k : Fin 6, v.host.params[k] = 0) ∧ v.host.result = .ok ∧
      v.host.enableEvent = false ∧ v.host.enableLineFault = false ∧ v.host.enableCommandDone = false ∧
      v.host.commandDone = false ∧ v.host.latch = 0 ∧ v.hint = false ∧
      v.mem.lanePointer = 7 ∧ v.mem.take = none ∧ v.host.claims = [] ∧ v.host.dataOut = none ∧ v.hrdy = true ∧ v.time.micros = 0 ∧
      v.pending = s.pending) ∧
    ∀ a, u.word a = s.word a

/-- Reset release samples the straps and starts the line interface in DISTURBED with the activity mark set and the time
base at 0 (R19, R20, R163). A release with no reset held changes nothing (log 6). -/
def Obligations.ResetReleaseSamplesStraps : Prop :=
  ∀ (s : State) (sid scn : BitVec 5) (srt : BitVec 2),
    (s.resetHeld = false → exec (.resetRelease sid scn srt) s = .next s) ∧
    (s.resetHeld = true → ∃ t, exec (.resetRelease sid scn srt) s = .next t ∧
      t = { s with resetHeld := false, ctl := t.ctl, line := t.line, time := t.time } ∧
      t.ctl = { s.ctl with number := t.ctl.number, count := t.ctl.count, rate := t.ctl.rate } ∧
      t.ctl.number.val = sid.toNat ∧ t.ctl.count = scn.toNat + 1 ∧ t.ctl.rate.val = srt.toNat ∧
      t.line.activity = .disturbed ∧ t.line.activityMark = true ∧ t.line.slotPhase = none ∧ t.line.slots = .stopped ∧
      t.line.runTime = 0 ∧ t.line.lineFault = false ∧ t.line.stuck = false ∧ t.time.micros = 0)

/-! ### The line -/

/-- The first active half-bit after an idle line (R3, R6, R7, R9, R15, R38): RECEIVING, the activity mark set, slot
counting stopped, the class fixed by the reply gap, a reply that has not begun dropped, the silence timer restarted; a
new run of activity begins, unless a frame has just ended and the line is not idle yet (R2, R16): that such activity is
taken as a frame is the model's choice (log 12). On a line that is not released, or in the stuck condition, there is no
such half-bit (log 6). -/
def Obligations.FirstActiveHalfBitStartsReceiving : Prop :=
  ∀ s : State, s.resetHeld = false →
    (s.line.released = true → s.line.stuck = false →
      exec .firstActiveHalfBit s = .next { s with
        line := { s.line with
          activity := .receiving
          frameOver := false
          activityMark := true
          slots := .stopped
          idleTime := some 0
          rxClass := if s.line.gap.isSome then .reply else .contention
          reply := none
          runTime := if s.line.frameOver then s.line.runTime else 0 }
        ctl := { s.ctl with silence := s.ctl.silence.map fun _ => 0 } }) ∧
    (s.line.released = false ∨ s.line.stuck = true → exec .firstActiveHalfBit s = .next s)

/-- A line disturbance drops the frame being taken in, enters DISTURBED and hands an observed collision notice (R14);
at an ACTIVE or LEAVING station the notice sets last to NONE and gives sync with reason COLLISION (R33). -/
def Obligations.LineDisturbanceIsAnObservedCollision : Prop :=
  ∀ s : State, s.resetHeld = false → s.line.activity = .receiving → s.line.frameOver = false →
    ∃ u : State, exec .lineDisturbance s = .next u.fill ∧
      u = { s with
        line := { s.line with activity := .disturbed, frameOver := false, idleTime := some 0 }
        ctl := u.ctl } ∧
      (s.onLine = false → u.ctl = { s.ctl with silence := s.ctl.silence.map fun _ => 0 }) ∧
      (s.onLine = true →
        u.ctl = { s.ctl with
          silence := s.ctl.silence.map fun _ => 0
          last := none
          sync := .synced
          reason := if s.ctl.sync = .unsynced then .collision else s.ctl.reason
          lineStatePending := s.ctl.lineStatePending || s.ctl.sync == .unsynced } ∧
        u.ctl.rank = s.ctl.number.val)

/-- A read-back mismatch stops the own frame and begins the jam (R5, R13). A reply's collision counts nothing; a
contention frame's gives the scheduler the outcome COLLISION (R65) and counts in the own-collision counter, which takes
the station to FAULTED at 3 (R28, R36; `EntryToOffline` says what the entry does, after any take in progress, log 27).
The observed collision comes with it (R14, R33). At a station off the line the two notices are dropped (R22): the jam is
sent and the exchange is decided all the same. -/
def Obligations.ReadBackMismatchCollides : Prop :=
  ∀ (s : State) (f : Transmission), s.resetHeld = false → s.line.activity = .sending → s.line.frameOver = false →
    s.line.tx = some f →
    let jamming := { s.line with
      activity := .jamming, frameOver := false, tx := none, txTime := 0, idleTime := some 0 }
    let quiet := s.ctl.silence.map fun _ => 0
    let observed := { s.ctl with
      silence := quiet
      last := none
      sync := .synced
      reason := if s.ctl.sync = .unsynced then .collision else s.ctl.reason
      lineStatePending := s.ctl.lineStatePending || s.ctl.sync == .unsynced }
    let decided := { s.sched with
      exchange := s.sched.exchange.map fun x =>
        if x.phase = .sending then { x with phase := .decided, outcome := some .collision } else x }
    (s.onLine = true → f.frameClass = .reply →
      exec .readBackMismatch s = .next ({ s with line := jamming, ctl := observed } : State).fill) ∧
    (s.onLine = true → f.frameClass = .contention → s.ctl.ownCollisions + 1 < 3 →
      exec .readBackMismatch s = .next ({ s with
        line := jamming
        ctl := { observed with ownCollisions := s.ctl.ownCollisions + 1 }
        sched := decided } : State).fill) ∧
    (s.onLine = true → f.frameClass = .contention → 3 ≤ s.ctl.ownCollisions + 1 →
      let jammed := { s with
        line := jamming
        ctl := { s.ctl with silence := quiet, ownCollisions := s.ctl.ownCollisions + 1 }
        sched := decided }
      let b := jammed.settleTake
      ∃ u : State, exec .readBackMismatch s = .next u.fill ∧ u = jammed.enterFaulted .duplicateStation ∧
        u.line = { jamming with reply := none } ∧
        u.ctl = { s.ctl with
          silence := none
          beacon := none
          last := none
          sync := .unsynced
          participation := .faulted
          reason := .duplicateStation
          lineStatePending := true
          ownCollisions := s.ctl.ownCollisions + 1 } ∧
        u.sched.pendingAnnounce = false ∧ u.sched.beaconDue = false ∧ u.sched.reoffer = none ∧
        (∀ x, u.sched.exchange = some x → x.lineLost = true) ∧
        (∀ i : Fin 12, u.recv.contexts[i] = none) ∧ u.recv.streams = b.recv.streams ∧ u.presence = b.presence ∧
        (∀ q : Fin 16, u.recv.ports[q].completions =
          b.recv.ports[q].completions ++ b.recv.abandonedEntries .offline (fun _ => true) q) ∧
        u.flags = b.flags ∧ u.windows = b.windows ∧ u.mem = b.mem ∧ u.queue = b.queue ∧ u.host = s.host) ∧
    (s.onLine = false →
      (f.frameClass = .reply → exec .readBackMismatch s =
        .next ({ s with line := jamming, ctl := { s.ctl with silence := quiet } } : State).fill) ∧
      (f.frameClass = .contention → exec .readBackMismatch s = .next ({ s with
        line := jamming, ctl := { s.ctl with silence := quiet }, sched := decided } : State).fill))

/-- The end of a jam leads to DISTURBED, or to IDLE if the line is already released, which the command says (R5, R15;
log 13); one bit time of released line leads from DISTURBED, or from a frame that has ended, to IDLE (R2, R15). The idle
time and the silence timer are then at least one bit time, counted from the last activity (R2, R38), where one is known
(log 26; the idle count is log 12). Where the line does not let these happen they change nothing (log 6). -/
def Obligations.JamEndAndLineIdle : Prop :=
  ∀ s : State, s.resetHeld = false →
    (s.line.activity = .jamming → exec (.jamEnd false) s = .next { s with
      line := { s.line with activity := .disturbed, frameOver := false, idleTime := some 0 }
      ctl := { s.ctl with silence := s.ctl.silence.map fun _ => 0 } }) ∧
    (s.line.activity = .jamming → exec (.jamEnd true) s = .next { s with
      line := { s.line with activity := .idle, frameOver := false, runTime := 0, idleTime := some 0 }
      ctl := { s.ctl with silence := s.ctl.silence.map fun _ => 0 } }) ∧
    (s.line.activity ≠ .jamming → ∀ b, exec (.jamEnd b) s = .next s) ∧
    (s.line.stuck = false → s.line.frameOver = true ∨ s.line.activity = .disturbed →
      let known := s.line.frameOver = true ∨ s.line.idleTime ≠ none
      exec .lineIdle s = .next { s with
        line := { s.line with
          activity := .idle, frameOver := false, runTime := 0, idleTime := if known then some 1 else some 0 }
        ctl := { s.ctl with
          silence := if known then s.ctl.silence.map fun n => if 1 ≤ n then n else 1 else s.ctl.silence } }) ∧
    (s.line.stuck = false → s.line.frameOver = false → s.line.activity ≠ .disturbed → exec .lineIdle s = .next s)

/-- A run beyond the stuck limit begins the stuck condition (R16): LINE FAULT is set, any transmission stops without a
jam, DISTURBED is entered; the scheduler records NO REPLY unless decided (R68); an ACTIVE or LEAVING station becomes
UNSYNCED with reason STUCK, recorded even if it was UNSYNCED (R37). The condition ends when the line has been released
for one bit time, and the state becomes IDLE; the exchange end comes R bit times later, where that these are counted
from the end of the condition is the model's choice (log 32), and the silence timer stands at one bit time at least (R2,
R38). Where the line does not let these happen they change nothing (log 6). -/
def Obligations.StuckConditionBeginsAndEnds : Prop :=
  ∀ s : State, s.resetHeld = false →
    (s.line.running = true → s.line.stuck = false →
      exec .stuckCondition s = .next ({ s with
        line := { s.line with
          activity := .disturbed
          frameOver := false
          idleTime := some 0
          stuck := true
          lineFault := true
          tx := none
          reply := none
          runTime := 1301 }
        sched := { s.sched with
          exchange := s.sched.exchange.map fun x =>
            if x.phase = .decided then x else { x with phase := .decided, outcome := some .noReply } }
        ctl :=
          if s.onLine then
            { s.ctl with
              silence := s.ctl.silence.map fun _ => 0, sync := .unsynced, reason := .stuck, lineStatePending := true }
          else { s.ctl with silence := s.ctl.silence.map fun _ => 0 } } : State).fill) ∧
    (s.line.running = false ∨ s.line.stuck = true → exec .stuckCondition s = .next s) ∧
    (s.line.stuck = true → exec .stuckConditionEnd s = .next { s with
      line := { s.line with activity := .idle, frameOver := false, runTime := 0, idleTime := some 0, stuck := false }
      ctl := { s.ctl with silence := s.ctl.silence.map fun n => if 1 ≤ n then n else 1 } }) ∧
    (s.line.stuck = true → exec .lineIdle s = exec .stuckConditionEnd s) ∧
    (s.line.stuck = false → exec .stuckConditionEnd s = .next s)

/-- R17: LINE FAULT is set by a stuck condition, cleared by a host write of 1 only after the condition has ended, left
by a write of 0, clear after both resets; the host sees it in control page word 4, and it drives HINT when enabled. A
write to word 4 touches neither participation nor transmitter, and the flag does not keep the station from sending: a
slot start and a reply start do the same whatever it is. The write acts at its service (R159): at once on a free path,
or at the word access that serves its waiting claim. It is sticky: every command but a reset, a reset release and a write
to word 4 leaves it set. -/
def Obligations.LineFaultIsSticky : Prop :=
  ∀ (s : State) (v : Word),
    (s.resetHeld = false → s.line.running = true → s.line.stuck = false →
      ∃ t, exec .stuckCondition s = .next t ∧ t.line.lineFault = true) ∧
    (∀ c, s.resetHeld = false →
      (c = .writeCauses v ∨ c = .controlPageWrite 4 v ∨ c = .hostMemoryWrite 16388 (.write v)) ∧ s.hostPathFree = true ∨
        c = .laneWordAccess ∧ s.mem.lineClaims = false ∧ (∃ rest, s.host.claims = .write 16388 v :: rest) →
      ∃ t, exec c s = .next t ∧
        t.line = { s.line with lineFault := t.line.lineFault } ∧ t.ctl = s.ctl ∧ t.sched = s.sched ∧
        (v.getLsbD 1 = true → s.line.stuck = false → t.line.lineFault = false) ∧
        (v.getLsbD 1 = true → s.line.stuck = true → t.line.lineFault = s.line.lineFault) ∧
        (v.getLsbD 1 = false → t.line.lineFault = s.line.lineFault)) ∧
    (s.line.lineFault = true → s.host.enableLineFault = true → s.hint = true) ∧
    (s.hostRead 16388).getLsbD 1 = s.line.lineFault ∧
    (∀ c ∈ [Instr.slotStart, Instr.replyStart], ∀ f, ∃ t, exec c s = .next t ∧
      exec c { s with line := { s.line with lineFault := f } } = .next { t with line := { t.line with lineFault := f } }) ∧
    (∀ c ∈ [Instr.powerOnReset, Instr.pinReset], ∃ t, exec c s = .next t ∧ t.line.lineFault = false) ∧
    (∀ t c, exec c s = .next t → s.line.lineFault = true → c.isReset = false → (∀ v, c ≠ .writeCauses v) →
      (∀ v, c ≠ .controlPageWrite 4 v) → (∀ v, c ≠ .hostMemoryWrite 16388 (.write v)) →
      (∀ v rest, s.mem.lineClaims = false → s.host.claims = .write 16388 v :: rest → c ≠ .laneWordAccess) →
      t.line.lineFault = true)

/-- An exchange end clears the activity mark and starts slot counting (R8, R9). It closes the station's open exchange
(R69): NO REPLY in AWAITING, LINE LOST with the line-lost mark, the outcome to the lane, the re-offer mark on COLLISION
(R61); then the drain is tested within the event (R26; log 8). That the reply gap is over with it, also for activity in the same
bit time, is the model's choice (log 33). With the activity mark clear there is no exchange end (log 6). -/
def Obligations.ExchangeEndClosesExchange : Prop :=
  ∀ s : State, s.resetHeld = false → s.line.released = true → s.line.stuck = false →
    (s.line.activityMark = false → exec .exchangeEnd s = .next s) ∧
    (s.line.activityMark = true →
      let ended := { s.line with
        activity := .idle, frameOver := false, runTime := 0, idleTime := some 16, activityMark := false
        slots := .beforeSlot0 0, gap := none, reply := none }
      (s.sched.exchange = none → exec .exchangeEnd s = .next ({ s with line := ended } : State).fill) ∧
      (∀ x, s.sched.exchange = some x →
        let o : ExchangeOutcome :=
          if x.lineLost then .lineLost else if x.phase = .awaiting then .noReply else x.outcome.getD .noReply
        (x.owner = .announce ∨ x.owner = .beacon →
          exec .exchangeEnd s =
            .next ({ s with line := ended, sched := { s.sched with exchange := none } } : State).drainTest.fill) ∧
        (∀ i, x.owner = .lane i →
          exec .exchangeEnd s = .next (({ s with
            line := ended
            sched := { s.sched with
              exchange := none
              reoffer := if o = .collision then some i else s.sched.reoffer } } : State).setLane i
                (s.lanes[i].takeOutcome o)).drainTest.fill)))

/-- Slots are counted in rounds of N from the exchange end (R9). A slot that is not the station's, or finds no offer,
passes (R11, R59). The rank of the own station s is s while last is NONE, and (s - last - 1) mod N for a last of the line
(R10). While no slots are counted none starts (log 6). -/
def Obligations.SlotsAreCountedAndPass : Prop :=
  ∀ s : State, s.resetHeld = false → s.line.activity = .idle → s.line.stuck = false → s.line.activityMark = false →
    (s.line.slots = .stopped → exec .slotStart s = .next s) ∧
    (∀ p, s.nextSlot p →
      s.onLine = false ∨ s.ctl.sync = .unsynced ∨ p ≠ s.ctl.rank ∨ s.sched.exchange.isSome = true ∨ s.choose = none →
      exec .slotStart s = .next { s with line := { s.line with slotPhase := some p, slots := .inSlot 0 } }) ∧
    (s.ctl.number.val < s.ctl.count →
      (s.ctl.last = none → s.ctl.rank = s.ctl.number.val) ∧
      (∀ q, s.ctl.last = some q → q.val < s.ctl.count →
        s.ctl.rank = (s.ctl.number.val + s.ctl.count - q.val - 1) % s.ctl.count))

/-- At a slot of its own rank an ACTIVE or LEAVING, SYNCED station begins the chosen frame (R11, R62): the transmitter
drives it from its first half-bit on (R6) with source, source lane and epoch filled in, the exchange is opened in
SENDING, a chosen lane goes to EXCHANGE, moves the rotation pointer (R60) and clears a re-offer mark that names it (R61). -/
def Obligations.SlotBeginsTheChosenFrame : Prop :=
  ∀ (s : State) (o : Owner), s.resetHeld = false → s.line.activity = .idle → s.line.stuck = false →
    s.line.activityMark = false → s.nextSlot s.ctl.rank → s.onLine = true → s.ctl.sync = .synced →
    s.sched.exchange = none → s.choose = some o →
    let f := s.offeredFrame o
    ∃ t, exec .slotStart s = .next t ∧
      t = { s with line := t.line, ctl := t.ctl, sched := t.sched, lanes := t.lanes } ∧
      t.ctl = { s.ctl with silence := s.ctl.silence.map fun _ => 0 } ∧
      t.line.activity = .sending ∧ t.line.frameOver = false ∧ t.line.txTime = 0 ∧ t.line.activityMark = true ∧
      t.line.slots = .stopped ∧ t.line.slotPhase = some s.ctl.rank ∧ t.line.reply = none ∧
      t.line.tx = some
        { frameClass := .contention
          header := Header.build f.head s.ctl.number o.sourceLane s.ctl.epoch
          payload := f.payload } ∧
      t.sched.exchange = some
        { owner := o
          head := f.head
          sourceLane := o.sourceLane
          payloadCount := f.payload.length
          expectsReply := f.head.addressed
          phase := .sending
          outcome := none
          lineLost := false } ∧
      t.sched.pendingAnnounce = s.sched.pendingAnnounce ∧ t.sched.beaconDue = s.sched.beaconDue ∧
      (∀ i, o = .lane i → t.sched.rotation = i ∧ t.lanes = s.lanes.set i { s.lanes[i] with state := .exchange, job := .none } ∧
        t.sched.reoffer = if s.sched.reoffer = some i then none else s.sched.reoffer) ∧
      (o = .announce ∨ o = .beacon →
        t.sched.rotation = s.sched.rotation ∧ t.sched.reoffer = s.sched.reoffer ∧ t.lanes = s.lanes)

/-- R59: at a slot start where the station may begin a contention frame the scheduler chooses one offer, by the first of
five rules that yields a frame: the ANNOUNCE; the offer of the lane that the re-offer mark names; a lane's CANCEL; a lane
frame of a lane in QUEUED; the BEACON. Lanes are taken in round-robin order: `turnPlace` is 0 for the lane after the
rotation pointer, one more for each lane from there on, 7 for the pointer's own. A choice opens the current exchange; with
none, or with an exchange open, which asks no question, the slot passes and the phase counts on, so that the station's next
slot comes when the count of N has gone round. -/
def Obligations.SchedulerChoosesByFiveRules : Prop :=
  ∀ s : State,
    (∀ i : Fin 8, (s.offersCancel i = true ↔ s.lanes[i].state = .cancelling ∧ s.lanes[i].frame ≠ none) ∧
      (s.offersFrame i = true ↔ s.lanes[i].state = .queued ∧ s.lanes[i].frame ≠ none)) ∧
    (∀ p i : Fin 8, turnPlace p (p + 1) = 0 ∧ turnPlace p p = 7 ∧
      (i ≠ p → turnPlace p (i + 1) = turnPlace p i + 1)) ∧
    (s.sched.pendingAnnounce = true → s.choose = some .announce) ∧
    (s.sched.pendingAnnounce = false →
      (∀ i, s.sched.reoffer = some i → s.offersCancel i = true ∨ s.offersFrame i = true → s.choose = some (.lane i)) ∧
      ((∀ i, s.sched.reoffer = some i → s.offersCancel i = false ∧ s.offersFrame i = false) →
        (∀ i, s.offersCancel i = true →
          (∀ j, s.offersCancel j = true → turnPlace s.sched.rotation i ≤ turnPlace s.sched.rotation j) →
          s.choose = some (.lane i)) ∧
        ((∀ j, s.offersCancel j = false) →
          (∀ i, s.offersFrame i = true →
            (∀ j, s.offersFrame j = true → turnPlace s.sched.rotation i ≤ turnPlace s.sched.rotation j) →
            s.choose = some (.lane i)) ∧
          ((∀ j, s.offersFrame j = false) → s.choose = if s.sched.beaconDue then some .beacon else none)))) ∧
    (s.resetHeld = false → s.line.activity = .idle → s.line.stuck = false → s.line.activityMark = false →
      s.onLine = true → s.ctl.sync = .synced → s.nextSlot s.ctl.rank →
      (s.sched.exchange = none → ∀ o, s.choose = some o →
        ∃ t x, exec .slotStart s = .next t ∧ t.sched.exchange = some x ∧ x.owner = o) ∧
      (s.sched.exchange ≠ none ∨ s.choose = none → ∃ t, exec .slotStart s = .next t ∧
        t = { s with line := { s.line with slotPhase := some s.ctl.rank, slots := .inSlot 0 } } ∧
        t.nextSlot (if s.ctl.rank + 1 < s.ctl.count then s.ctl.rank + 1 else 0)))

/-- A reply that is owed begins at its start point on a line that has stayed released, at an ACTIVE or LEAVING station
whose answering block has completed its take, with the fields of R55; otherwise it is not sent, and a take in progress
stands as it is (R6, R54, R161). -/
def Obligations.ReplyBeginsOrIsDropped : Prop :=
  ∀ (s : State) (r : PendingReply), s.resetHeld = false → s.line.reply = some r →
    (s.line.released = true → s.line.stuck = false → s.onLine = true → s.mem.take = none →
      ∃ t h, exec .replyStart s = .next t ∧
        t = { s with line := t.line, ctl := { s.ctl with silence := s.ctl.silence.map fun _ => 0 } } ∧
        t.line.activity = .sending ∧ t.line.frameOver = false ∧ t.line.activityMark = true ∧ t.line.reply = none ∧
        t.line.txTime = 0 ∧
        t.line.tx = some { frameClass := .reply, header := h, payload := r.words } ∧
        h.kind = some .reply ∧ h.source = s.ctl.number ∧ h.sourceLane = r.request.sourceLane ∧ h.epoch = s.ctl.epoch ∧
        h.destination = r.request.source ∧ h.all = false ∧ h.selector = r.request.selector ∧ h.h2 = r.request.h2 ∧
        h.replyCode = r.code.code ∧ (r.words.length ≤ 16 → h.replyCount = r.words.length)) ∧
    (s.line.released = false ∨ s.line.stuck = true ∨ s.onLine = false ∨ s.mem.take ≠ none →
      exec .replyStart s = .next { s with line := { s.line with reply := none } })

/-- Own frame completion (R6, R32, R64): a contention frame decides a broadcast SENT and sends an addressed frame's
exchange to AWAITING; the station controller sets last to the own number, clears the own-collision counter, restarts the
beacon timer, clears the beacon-due mark, and the pending announce if the frame was the ANNOUNCE. An own reply that
completes changes none of this. At a station off the line the exchange still moves on and the reply gap still opens
(log 20); the idle count is log 12. -/
def Obligations.OwnFrameCompletes : Prop :=
  ∀ (s : State) (f : Transmission), s.resetHeld = false → s.line.activity = .sending → s.line.frameOver = false →
    s.line.tx = some f →
    let ended (gap : Option Nat) := { s.line with frameOver := true, idleTime := some 0, gap := gap, tx := none }
    let quiet := s.ctl.silence.map fun _ => 0
    let moved := s.sched.exchange.map fun x =>
      if x.phase = .sending then
        (if x.expectsReply then { x with phase := .awaiting } else { x with phase := .decided, outcome := some .sent })
      else x
    (f.frameClass = .reply →
      exec .ownFrameCompletion s = .next { s with line := ended none, ctl := { s.ctl with silence := quiet } }) ∧
    (f.frameClass = .contention → s.onLine = true →
      exec .ownFrameCompletion s = .next { s with
        line := ended (some 0)
        ctl := { s.ctl with silence := quiet, last := some s.ctl.number, ownCollisions := 0, beacon := some 0 }
        sched := { s.sched with
          exchange := moved
          beaconDue := false
          pendingAnnounce := if f.header.kind = some .announce then false else s.sched.pendingAnnounce } }) ∧
    (f.frameClass = .contention → s.onLine = false →
      exec .ownFrameCompletion s = .next { s with
        line := ended (some 0), ctl := { s.ctl with silence := quiet }, sched := { s.sched with exchange := moved } })

/-! ### Timers -/

/-- The silence timer reaches S (R38): last becomes NONE, an UNSYNCED station becomes SYNCED with reason SILENCE, and the
timer holds, so that one silence acts once. The beacon timer reaches B (R39): the beacon-due mark is set and the timer
holds. The hold timer of a lane reaches H (R82): it stops and the lane enters QUEUED with the same frame. A count stands
one short of its limit until its command acts (log 5); a timer that does not run, has acted, or has restarted since its
command was handed gives nothing. -/
def Obligations.SilenceBeaconAndHoldTimers : Prop :=
  ∀ s : State, s.resetHeld = false →
    (s.ctl.silence = some 32767 →
      let u : State := { s with ctl := { s.ctl with
        last := none
        silence := some 32768
        sync := .synced
        reason := if s.ctl.sync = .unsynced then .silence else s.ctl.reason
        lineStatePending := s.ctl.lineStatePending || s.ctl.sync == .unsynced } }
      exec .silenceTimerExpiry s = .next u.fill ∧ exec .silenceTimerExpiry u = .next u.fill) ∧
    (s.ctl.silence ≠ some 32767 → exec .silenceTimerExpiry s = .next s.fill) ∧
    (s.ctl.beacon = some 16383 →
      exec .beaconTimerExpiry s = .next { s with
        ctl := { s.ctl with beacon := some 16384 }, sched := { s.sched with beaconDue := true } }) ∧
    (s.ctl.beacon ≠ some 16383 → exec .beaconTimerExpiry s = .next s) ∧
    (∀ i : Fin 8,
      (∀ n, s.lanes[i].state = .held → s.lanes[i].hold = some n → 2047 ≤ n → exec (.holdTimerExpiry i) s =
        .next { s with lanes := s.lanes.set i { s.lanes[i] with state := .queued, job := .none, hold := none } }) ∧
      (s.lanes[i].state ≠ .held ∨ (∀ n, s.lanes[i].hold = some n → n < 2047) →
        exec (.holdTimerExpiry i) s = .next s))

/-- The context timer reaches C (R115, R122): the context is abandoned with status ABANDONED; its entry joins the tail of
its port's completion list and the table entry becomes free. The presence timer of a PRESENT record reaches P (R143): the
record becomes ABSENT and keeps its epoch, the peer joins the changed-pending mask, and the absent order (R124) abandons
every open context from the peer and keeps its stream records. The receive unit takes either after the take in progress
(log 27). A count stands one short of its limit until its expiry acts (log 5): a timer restarted by an arrival or a
delivery taken first does not expire, and a free entry or a record that is not PRESENT gives nothing. -/
def Obligations.ContextAndPresenceTimeouts : Prop :=
  (∀ (s : State) (i : Fin 12), s.resetHeld = false →
      let b := s.settleTake
      (∀ c, b.recv.contexts[i] = some c → 262143 ≤ c.age →
        exec (.contextTimerExpiry i) s = .next ({ b with recv := { b.recv with
          contexts := b.recv.contexts.set i none
          ports := b.recv.ports.set c.port { b.recv.ports[c.port] with
            completions := b.recv.ports[c.port].completions ++
              [{ buffer := c.buffer.address, status := .abandoned, length := c.stored, source := some c.source
                 message := some c.message }] } } } : State).fill) ∧
      ((∀ c, b.recv.contexts[i] = some c → c.age < 262143) → exec (.contextTimerExpiry i) s = .next s.fill)) ∧
  (∀ (s : State) (p : Fin 32), s.resetHeld = false →
      let b := s.settleTake
      (∀ n, s.onLine = true → p ≠ s.ctl.number → s.presence.records[p].state = .present →
        s.presence.records[p].heard = some n → 65535 ≤ n →
        ∃ u : State, exec (.presenceTimerExpiry p) s = .next u.fill ∧
          u = { b with presence := u.presence, recv := u.recv } ∧
          u.presence.records = s.presence.records.set p
            { s.presence.records[p] with state := .absent, heard := some 65536 } ∧
          u.presence.changed = b.presence.changed ||| BitVec.twoPow 32 p.val ∧
          u.recv.streams = b.recv.streams ∧
          (∀ i : Fin 12, u.recv.contexts[i] = b.recv.contexts[i].filter fun c => c.source != p) ∧
          (∀ q : Fin 16, u.recv.ports[q].isOpen = b.recv.ports[q].isOpen ∧
            u.recv.ports[q].posted = b.recv.ports[q].posted ∧ u.recv.bufferCount q = b.recv.bufferCount q ∧
            u.recv.ports[q].completions = b.recv.ports[q].completions ++
              b.recv.abandonedEntries .peerAbsent (fun c => c.source == p) q)) ∧
      (s.onLine = false ∨ p = s.ctl.number ∨ s.presence.records[p].state ≠ .present ∨
          (∀ n, s.presence.records[p].heard = some n → n < 65535) →
        exec (.presenceTimerExpiry p) s = .next s.fill))

/-! ### Flags and waits -/

/-- The take of a wait request (R101): with the flag set the wait is satisfied at once, and with consume the flag is
cleared; with the flag clear the lane joins the tail of the list and enters WAITING, its wait timer starts when the limit
is not 0, and a lane with its stop mark set hands a removal at once (R94). -/
def Obligations.WaitRequestIsTaken : Prop :=
  ∀ (s : State) (i : Fin 8), s.resetHeld = false → s.lanes[i].state = .working → s.lanes[i].job = .waitRequest →
    let l := s.lanes[i]
    let f := l.flag
    (s.flags.isSet f = true → ∃ t, exec (.waitRequestTake i) s = .next t ∧
      t = { s with flags := { s.flags with flags := t.flags.flags }, lanes := s.lanes.set i (l.finish .done) } ∧
      (∀ g : Fin 32, t.flags.isSet g = if g = f ∧ l.consume = true then false else s.flags.isSet g)) ∧
    (s.flags.isSet f = false → exec (.waitRequestTake i) s = .next { s with
      flags := { s.flags with lists := s.flags.lists.set f (s.flags.lists[f] ++ [{ lane := i, consume := l.consume }]) }
      lanes := s.lanes.set i { l with
        state := .waiting
        job := .none
        wait := if l.copy[3] = 0 then none else some 0
        expiryHanded := false
        removalHanded := l.stopMark } })

/-- The wait timer reaches its limit (R102): it stops and hands an expiry; the lane stays in WAITING. Its count stands one
short of the limit until then (log 5). At the take of an expiry or of a removal (R103) the lane, if still listed, leaves
the list and goes on to write EXPIRED or STOPPED, its wait timer stopped and the flag unchanged; otherwise the expiry or
removal is dropped. What else the lane had handed is dropped as it leaves the list (log 18). -/
def Obligations.WaitsExpireAndAreRemoved : Prop :=
  ∀ (s : State) (i : Fin 8), s.resetHeld = false →
    let l := s.lanes[i]
    let off : FlagUnit :=
      { s.flags with lists := s.flags.lists.set l.flag (s.flags.lists[l.flag].filter fun e => e.lane != i) }
    let leaves (st : Status) : Lane :=
      { l with
        state := .working, job := .writeProgress st, wait := none, expiryHanded := false, removalHanded := false
        frame := none, hold := none }
    (∀ n, l.state = .waiting → l.wait = some n → l.copy[3].toNat ≤ n + 1 → exec (.waitTimerExpiry i) s =
      .next { s with lanes := s.lanes.set i { l with wait := none, expiryHanded := true } }) ∧
    (l.state ≠ .waiting ∨ (∀ n, l.wait = some n → n + 1 < l.copy[3].toNat) →
      exec (.waitTimerExpiry i) s = .next s) ∧
    (l.expiryHanded = true →
      (0 < s.timesListed i l.flag →
        exec (.waitExpiryTake i) s = .next { s with flags := off, lanes := s.lanes.set i (leaves .expired) }) ∧
      (s.timesListed i l.flag = 0 →
        exec (.waitExpiryTake i) s = .next { s with lanes := s.lanes.set i { l with expiryHanded := false } })) ∧
    (l.expiryHanded = false → exec (.waitExpiryTake i) s = .next s) ∧
    (l.removalHanded = true →
      (0 < s.timesListed i l.flag →
        exec (.waitRemovalTake i) s = .next { s with flags := off, lanes := s.lanes.set i (leaves .stopped) }) ∧
      (s.timesListed i l.flag = 0 →
        exec (.waitRemovalTake i) s = .next { s with lanes := s.lanes.set i { l with removalHanded := false } })) ∧
    (l.removalHanded = false → exec (.waitRemovalTake i) s = .next s)

/-- R99: setting a flag. A set flag is left as it is. Otherwise every entry without the consume mark and the first with
it are released and go on to write DONE; the later consuming entries stay in order; the flag ends clear if a consumer
was released and set, with an empty list, otherwise. What a released lane had handed to the flag unit is dropped then
(log 18). -/
def Obligations.SettingAFlagReleasesWaiters : Prop :=
  ∀ (s : State) (f : Fin 32),
    (s.flags.isSet f = true → s.setFlag f = s) ∧
    (s.flags.isSet f = false →
      let old := s.flags.lists[f]
      let new := (s.setFlag f).flags.lists[f]
      s.setFlag f = { s with
        flags := { s.flags with flags := (s.setFlag f).flags.flags, lists := s.flags.lists.set f new }
        lanes := (s.setFlag f).lanes } ∧
      (∀ g : Fin 32, g ≠ f → (s.setFlag f).flags.isSet g = s.flags.isSet g) ∧
      ((∀ e ∈ old, e.consume = false) → (s.setFlag f).flags.isSet f = true ∧ new = []) ∧
      (∀ before after i, old = before ++ { lane := i, consume := true } :: after → (∀ e ∈ before, e.consume = false) →
        (s.setFlag f).flags.isSet f = false ∧ new = after.filter fun e => e.consume) ∧
      (∀ i : Fin 8,
        ((∃ before after c, old = before ++ { lane := i, consume := c } :: after ∧
            (c = true → ∀ e ∈ before, e.consume = false)) →
          (s.setFlag f).lanes[i] = { s.lanes[i] with
            state := .working, job := .writeProgress .done, wait := none, expiryHanded := false
            removalHanded := false, frame := none, hold := none }) ∧
        ((∀ before after c, old = before ++ { lane := i, consume := c } :: after →
            c = true ∧ ∃ e ∈ before, e.consume = true) → (s.setFlag f).lanes[i] = s.lanes[i])))

/-- The take of a FLAG request (R88, R100): a set acts with its releases, a clear clears the flag and leaves the wait
list; the lane then goes on to write DONE. -/
def Obligations.FlagRequestIsTaken : Prop :=
  ∀ (s : State) (i : Fin 8), s.resetHeld = false → s.lanes[i].state = .working → s.lanes[i].job = .flagRequest →
    (s.lanes[i].setsFlag = true →
      exec (.flagRequestTake i) s = .next
        ((s.setFlag s.lanes[i].flag).setLane i ((s.setFlag s.lanes[i].flag).lanes[i].finish .done))) ∧
    (s.lanes[i].setsFlag = false → ∃ t, exec (.flagRequestTake i) s = .next t ∧
      t = { s with
        flags := { s.flags with flags := t.flags.flags }
        lanes := s.lanes.set i (s.lanes[i].finish .done) } ∧
      (∀ g : Fin 32, t.flags.isSet g = if g = s.lanes[i].flag then false else s.flags.isSet g))

/-! ### Lanes -/

/-- The controller serves one waiting claim, the first class in the order line side, host, lanes that has one (R160), and
with none waiting serves nothing. A line-side take stores or fetches one word and claims the next only afterwards
(R161); after its last word the block completes it: the receive unit's bookkeeping (R119, R121), the window's counts
(R134), or the words of the READ's reply (R135). A host claim does at its service what it would have done on a free path:
a write its write, a read drives the word of that moment, and latches the high word if it is of word 5; one that was
abandoned drives nothing (R159, R163). Of the lanes' claims the one that stands first in
round-robin order is served (R160). A descriptor fetch reads one word, in order D0 to D7 (R77). That a take is in
progress only where its delivery says so, and that a later event at its block finds it settled, its end an event of its
own after which the queue fills (R152), is the model's choice (log 27). -/
def Obligations.LaneClaimsAreServedInTurn : Prop :=
  ∀ s : State, s.resetHeld = false →
    (s.mem.lineClaims = true → exec .laneWordAccess s = .next s.lineAccess.fill) ∧
    (s.mem.take = none → s.settleTake = s) ∧ (s.mem.take ≠ none → s.settleTake = s.finishTake.fill) ∧
    (∀ k, s.mem.take = some k →
      (∀ w rest done, k.work = .store (w :: rest) done → ∃ t : State,
        t.word k.address = w ∧ (∀ a, a ≠ k.address → t.word a = s.word a) ∧
        t = { s with mem := { s.mem with
          cells := t.mem.cells
          take := if rest = [] then none
            else some { address := k.address + 1, work := .store rest done, claimed := false } } } ∧
        (rest ≠ [] → s.lineAccess = t) ∧
        (∀ i c opens, rest = [] → done = .segment i c opens → s.lineAccess =
          let headTaken : ReceiveUnit := { s.recv with
            ports := s.recv.ports.set c.port { s.recv.ports[c.port] with posted := s.recv.ports[c.port].posted.tail } }
          { t with recv := (if opens then headTaken else s.recv).afterStore i c }) ∧
        (∀ j p, rest = [] → done = .window j p → s.lineAccess =
          { t with windows := s.windows.set j { s.windows[j] with
            updates := s.windows[j].updates + 1
            lastWriter := some p
            pending := if s.windows[j].notify then min (s.windows[j].pending + 1) 65535 else s.windows[j].pending } })) ∧
      (∀ n got, k.work = .fetch (n + 1) got →
        let words := got ++ [s.word k.address]
        (n ≠ 0 → s.lineAccess = { s with mem := { s.mem with
          take := some { address := k.address + 1, work := .fetch n words, claimed := false } } }) ∧
        (n = 0 → s.lineAccess = { s with
          mem := { s.mem with take := none }
          line := { s.line with reply := s.line.reply.map fun r => { r with words := words } } })) ∧
      (∀ n, k.work.remaining ≤ n → 1 ≤ n → s.finishTake = State.lineAccesses n s)) ∧
    (s.mem.lineClaims = false →
      (∀ a v rest, s.host.claims = .write a v :: rest →
        ∃ t, exec (.hostMemoryWrite a (.write v)) { s with host := { s.host with claims := [] } } = .next t ∧
          exec .laneWordAccess s =
            .next { t with host := { t.host with claims := rest, dataOut := s.host.dataOut } }) ∧
      (∀ a driven rest, s.host.claims = .read a driven :: rest → exec .laneWordAccess s =
        .next { s with host := { s.host with
          claims := rest
          dataOut := if driven then some (s.hostRead a) else s.host.dataOut
          latch := if a = 16389 then (s.time.micros >>> 16).setWidth 16 else s.host.latch } })) ∧
    (s.hostPathFree = true → (∀ i : Fin 8, s.lanes[i].claims = false) → exec .laneWordAccess s = .next s) ∧
    (∀ i : Fin 8, s.hostPathFree = true → s.lanes[i].claims = true →
      (∀ j : Fin 8, s.lanes[j].claims = true → turnPlace s.mem.lanePointer i ≤ turnPlace s.mem.lanePointer j) →
      s.nextClaim = some i ∧
      (∀ k, s.lanes[i].job = .fetch k → s.lanes[i].address + k.val < 16384 →
        exec .laneWordAccess s = .next (({ s with mem := { s.mem with lanePointer := i } } : State).setLane i
          { s.lanes[i] with
            copy := s.lanes[i].copy.set k (s.word (s.lanes[i].address + k.val))
            job := if k = 7 then .markInProgress else .fetch (k + 1) }).fill))

/-- The access that follows a fetch writes IN PROGRESS to D7 (R77; log 9). The lane then sets its last reply code to NONE
and its segment index to 0, acts on a stop mark (R94), and judges and starts its copy (R78, R79): a bad copy ends in BAD
DESCRIPTOR, a line descriptor fails OFFLINE outside ACTIVE and PEER ABSENT for an ABSENT destination, and a SEND that
passes takes its message number and begins segment 0; a READ and a SIGNAL offer their frames and a WRITE reads its
payload (R84, R85, R86). -/
def Obligations.FetchEndsInProgress : Prop :=
  ∀ (s : State) (i : Fin 8), s.resetHeld = false → s.nextClaim = some i → s.lanes[i].job = .markInProgress →
    s.lanes[i].address ≤ 16376 →
    let l := s.lanes[i]
    let m := { l with lastReply := none, segment := 0, validated := false }
    ∃ t : State, exec .laneWordAccess s = .next t.fill ∧
      t = { s with mem := t.mem, lanes := s.lanes.set i t.lanes[i] } ∧ t.mem.lanePointer = i ∧
      t.word (l.address + 7) = 1 ∧ (∀ a, a ≠ l.address + 7 → t.word a = s.word a) ∧
      (l.stopMark = true → t.lanes[i] = m.finish .stopped) ∧
      (l.stopMark = false → l.bad s.ctl = true → t.lanes[i] = m.finish .badDescriptor) ∧
      (l.stopMark = false → l.bad s.ctl = false →
        let v := { m with validated := true }
        (l.lineDescriptor = true → s.ctl.participation ≠ .active → t.lanes[i] = v.finish .offline) ∧
        (l.lineDescriptor = true → s.ctl.participation = .active → s.presence.records[l.destination].state = .absent →
          t.lanes[i] = v.finish .peerAbsent) ∧
        (s.ctl.participation = .active → s.presence.records[l.destination].state ≠ .absent → l.kind = some .send →
          t.lanes[i] = { v with
            lineWork := true, retries := 3, messageNumber := l.messageCounter, messageCounter := l.messageCounter + 1
            unanswered := false, patience := l.patienceField, job := .readPayload [] }) ∧
        (s.ctl.participation = .active → s.presence.records[l.destination].state ≠ .absent →
          let passed := { v with lineWork := true, retries := 3 }
          (l.kind = some .read → t.lanes[i] = passed.offer
            { head :=
                { kind := .read, destination := l.destination, all := false, selector := Fin.ofNat 32 l.window
                  h2 := BitVec.ofNat 16 l.remoteOffset, h3 := countWord l.length }
              payload := [] }) ∧
          (l.kind = some .write → t.lanes[i] = { passed with job := .readPayload [] }) ∧
          (l.kind = some .signal → l.all = false → t.lanes[i] = passed.offer
            { head :=
                { kind := .signal, destination := l.destination, all := false, selector := l.flag, h2 := 0, h3 := 0 }
              payload := [] })) ∧
        (l.kind = some .signal → l.all = true → t.lanes[i] = { v with retries := 3 }.offer
          { head := { kind := .signal, destination := 0, all := true, selector := l.flag, h2 := 0, h3 := 0 }
            payload := [] }) ∧
        (l.kind = some .wait → t.lanes[i] = { v with job := .waitRequest }) ∧
        (l.kind = some .flag → t.lanes[i] = { v with job := .flagRequest }) ∧
        (l.kind = some .note → t.lanes[i].heldEvent = some
          { kind := .note, unit := i.val, peer := 63, status := 0, length := 0
            address := BitVec.ofNat 16 l.address, extra := l.copy[2] } ∧ t.lanes[i].job = .afterNote))

/-- The conditions under which a descriptor copy is bad (R78), kind by kind. -/
def Obligations.BadDescriptors : Prop :=
  ∀ (l : Lane) (c : StationController),
    let elsewhere := c.count ≠ 1 ∧ l.destination.val < c.count ∧ l.destination ≠ c.number
    (l.kind = none → l.bad c = true) ∧
    (l.kind = some .send →
      (l.bad c = false ↔ 1 ≤ l.length ∧ l.length ≤ 2048 ∧ l.bufferAddress + l.length ≤ 16384 ∧ elsewhere)) ∧
    (l.kind = some .read ∨ l.kind = some .write →
      (l.bad c = false ↔
        1 ≤ l.length ∧ l.length ≤ 16 ∧ l.bufferAddress + l.length ≤ 16384 ∧ l.window ≤ 7 ∧ elsewhere)) ∧
    (l.kind = some .signal → (l.bad c = false ↔ l.all = true ∨ elsewhere)) ∧
    (l.kind = some .wait → (l.bad c = false ↔ l.alternate ≤ 16376)) ∧
    (l.kind = some .flag ∨ l.kind = some .note → l.bad c = false)

/-- The payload read of a SEND segment or a WRITE takes one word an access, in address order (R80, R84): segment i of a SEND
begins at the buffer address plus 32 i and has the payload count of R46, a WRITE has its whole count; after its last word the frame is
offered, or a stop mark acted on (R94). The store of an accepted READ's words stores one word an access, in offset order,
and ends in DONE (R84). -/
def Obligations.PayloadIsReadAndReadDataStored : Prop :=
  ∀ (s : State) (i : Fin 8), s.resetHeld = false → s.nextClaim = some i →
    let l := s.lanes[i]
    let first := if l.kind = some .send then l.bufferAddress + 32 * l.segment else l.bufferAddress
    let wanted :=
      if l.kind = some .send then if 32 * (l.segment + 1) ≤ l.length then 32 else l.length - 32 * l.segment else l.length
    let base : State := { s with mem := { s.mem with lanePointer := i } }
    (∀ got, l.job = .readPayload got → first + got.length < 16384 →
      let words := got ++ [s.word (first + got.length)]
      (words.length < wanted →
        exec .laneWordAccess s = .next (base.setLane i { l with job := .readPayload words }).fill) ∧
      (wanted ≤ words.length → l.stopMark = false → l.kind = some .send →
        exec .laneWordAccess s = .next (base.setLane i { l with
          state := .queued
          job := .none
          hold := none
          frame := some
            { head :=
                { kind := .data, destination := l.destination, all := false, selector := Fin.ofNat 32 l.port
                  h2 := segmentWord l.messageNumber l.segment, h3 := lengthWord l.length }
              payload := words } }).fill) ∧
      (wanted ≤ words.length → l.stopMark = false → l.kind = some .write →
        exec .laneWordAccess s = .next (base.setLane i { l with
          state := .queued
          job := .none
          hold := none
          frame := some
            { head :=
                { kind := .write, destination := l.destination, all := false, selector := Fin.ofNat 32 l.window
                  h2 := BitVec.ofNat 16 l.remoteOffset, h3 := countWord l.length }
              payload := words } }).fill) ∧
      (wanted ≤ words.length → l.stopMark = true →
        exec .laneWordAccess s = .next (base.setLane i
          (if l.kind = some .send ∧ 1 ≤ l.segment then l.oweCancel .stopped else l.finish .stopped)).fill)) ∧
    (∀ offset w rest, l.job = .storeRead offset (w :: rest) → l.bufferAddress + offset < 16384 →
      ∃ t : State, exec .laneWordAccess s = .next t.fill ∧
        t = { s with mem := t.mem, lanes := s.lanes.set i t.lanes[i] } ∧ t.mem.lanePointer = i ∧
        t.word (l.bufferAddress + offset) = w ∧ (∀ a, a ≠ l.bufferAddress + offset → t.word a = s.word a) ∧
        (rest = [] → t.lanes[i] = l.finish .done) ∧
        (rest ≠ [] → t.lanes[i] = { l with job := .storeRead (offset + 1) rest }))

/-- The writeback (R90): first D6 with progress (the segments accepted of a SEND, the count of a READ or WRITE that is DONE,
otherwise 0, and 0 with BAD DESCRIPTOR) and reply code, then D7 with the final status; after it line work is
over, DESCRIPTOR DONE is posted for a failure and, with notify, for DONE and EXPIRED, and otherwise the path of R91 is
taken; the drain is tested (R26). -/
def Obligations.StatusIsWrittenBack : Prop :=
  ∀ (s : State) (i : Fin 8) (st : Status), s.resetHeld = false → s.nextClaim = some i → s.lanes[i].address ≤ 16376 →
    let l := s.lanes[i]
    let progress : Nat :=
      match l.kind with
      | some .send => if st = .badDescriptor then 0 else l.segment
      | some .read | some .write => if st = .done then l.length else 0
      | some .signal | some .wait | some .flag | some .note | none => 0
    (l.job = .writeProgress st → ∃ t : State, exec .laneWordAccess s = .next t.fill ∧
      t = { s with mem := t.mem, lanes := s.lanes.set i { l with job := .writeStatus st } } ∧ t.mem.lanePointer = i ∧
      t.word (l.address + 6) =
        BitVec.ofNat 16 ((match l.lastReply with | some c => c.code | none => 15) * 4096 + progress % 2048) ∧
      (∀ a, a ≠ l.address + 6 → t.word a = s.word a)) ∧
    (l.job = .writeStatus st → ∃ t : State, exec .laneWordAccess s = .next t.drainTest.fill ∧
      t = { s with mem := t.mem, lanes := s.lanes.set i t.lanes[i] } ∧ t.mem.lanePointer = i ∧
      t.word (l.address + 7) = BitVec.ofNat 16 st.code ∧ (∀ a, a ≠ l.address + 7 → t.word a = s.word a) ∧
      t.lanes[i].lineWork = false ∧
      (st.failure = true ∨ (st = .done ∨ st = .expired) ∧ l.notify = true →
        t.lanes[i].state = .reporting ∧ t.lanes[i].job = .afterDone st ∧ t.lanes[i].heldEvent = some
          { kind := .descriptorDone, unit := i.val
            peer := if l.validated = true ∧ l.lineDescriptor = true then l.destination.val else 63
            status := st.code, length := BitVec.ofNat 16 progress, address := BitVec.ofNat 16 l.address
            extra := BitVec.ofNat 16 (match l.lastReply with | some c => c.code | none => 15) }) ∧
      (st.failure = false → ¬((st = .done ∨ st = .expired) ∧ l.notify = true) →
        t.lanes[i] = ({ l with lineWork := false } : Lane).takePath i st))

/-- The paths of R91, first that applies: BAD DESCRIPTOR, stop mark, failure without continue-on-failure and stop-after
end the chain with their reasons; EXPIRED follows the alternate link, anything else the next link; a link above 16376
ends with BAD LINK. -/
def Obligations.PathsAfterADescriptor : Prop :=
  ∀ (l : Lane) (i : Fin 8) (st : Status),
    let ends (reason : Nat) := { l with
      state := .reporting
      job := .afterEnded
      heldEvent := some { kind := .laneEnded, unit := i.val, peer := 0, status := reason, length := 0
                          address := BitVec.ofNat 16 l.address, extra := 0 } }
    let link := if st = .expired then l.copy[4].toNat else l.copy[1].toNat
    (st = .badDescriptor → l.takePath i st = ends 3) ∧
    (st ≠ .badDescriptor → l.stopMark = true → l.takePath i st = ends 1) ∧
    (st ≠ .badDescriptor → l.stopMark = false → st.failure = true → l.continueOnFailure = false →
      l.takePath i st = ends 2) ∧
    (st ≠ .badDescriptor → l.stopMark = false → (st.failure = false ∨ l.continueOnFailure = true) →
      (l.stopAfter = true → l.takePath i st = ends 0) ∧
      (l.stopAfter = false → 16376 < link → l.takePath i st = ends 4) ∧
      (l.stopAfter = false → link ≤ 16376 → l.takePath i st =
        { l with state := .working, address := link, job := .fetch 0, validated := false }))

/-- The outcomes of a SEND segment's exchange (R80, R81, R82, Table 5.6), for a lane with no stop mark and no cancel
owed. A failing SEND with segments accepted owes a cancel for BUSY EXHAUSTED, NO ANSWER and REFUSED, but not after
REFUSED-STRAY (R81, R83). -/
def Obligations.SendOutcomes : Prop :=
  ∀ l : Lane, l.kind = some .send → l.stopMark = false → l.cancelOwed = false →
    let fails (m : Lane) (st : Status) : Lane := if 1 ≤ l.segment then m.oweCancel st else m.finish st
    let again (m : Lane) : Lane := { m with state := .queued, job := .none, hold := none }
    (∀ ws, l.takeOutcome (.reply .accepted ws) =
      let m := { l with segment := l.segment + 1, lastReply := some .accepted }
      if segmentCount l.length ≤ l.segment + 1 then m.finish .done
      else { m with
        state := .working, job := .readPayload [], frame := none, unanswered := false, patience := l.patienceField
        retries := 3 }) ∧
    (∀ c ws, c = .busyNoBuffer ∨ c = .busyNoContext ∨ c = .busyPending → l.takeOutcome (.reply c ws) =
      let m := { l with lastReply := some c }
      if 0 < l.patience then
        { m with state := .held, job := .none, patience := l.patience - 1, hold := some 0 }
      else fails m .busyExhausted) ∧
    (∀ ws, l.takeOutcome (.reply .checkError ws) =
      let m := { l with lastReply := some .checkError }
      if 0 < l.retries then again { m with retries := l.retries - 1 } else fails m .noAnswer) ∧
    (∀ o, o = .noReply ∨ o = .badReply → l.takeOutcome o =
      let m := { l with unanswered := true }
      if 0 < l.retries then again { m with retries := l.retries - 1 } else fails m .noAnswer) ∧
    (∀ ws, l.takeOutcome (.reply .refusedStray ws) =
      { l with lastReply := some .refusedStray }.finish (if l.unanswered then .uncertain else .refused)) ∧
    (∀ c ws, c = .refusedClosed ∨ c = .refusedLength ∨ c = .refusedMalformed →
      l.takeOutcome (.reply c ws) = fails { l with lastReply := some c } .refused) ∧
    l.takeOutcome .collision = again l ∧
    l.takeOutcome .lineLost = { l with cancelOwed := false, pendingStatus := none }.finish .offline

/-- The outcomes of READ, WRITE and addressed SIGNAL (R84, R85) and of a broadcast SIGNAL (R86), for a lane with no stop
mark and no cancel owed; and the discharge of an owed cancel (R83). LINE LOST fails the descriptor OFFLINE and sends no
cancel in each of them (R70, R95). The scheduler hands a lane only the outcomes its kind can have: a reply code that
Table 3.6 does not list for the kind is a BAD REPLY before it (R66), and what the model gives the lane for it is the
model's choice (log 28). -/
def Obligations.RequestBroadcastAndCancelOutcomes : Prop :=
  ∀ l : Lane,
    let again (m : Lane) : Lane := { m with state := .queued, job := .none, hold := none }
    let retried (m : Lane) : Lane :=
      if 0 < l.retries then again { m with retries := l.retries - 1 } else m.finish .noAnswer
    (l.cancelOwed = false → l.stopMark = false →
      l.kind = some .read ∨ l.kind = some .write ∨ l.kind = some .signal ∧ l.all = false →
      (∀ w ws, l.kind = some .read → (w :: ws).length = l.length → l.takeOutcome (.reply .accepted (w :: ws)) =
        { l with lastReply := some .accepted, state := .working, job := .storeRead 0 (w :: ws), frame := none }) ∧
      (∀ ws, l.kind ≠ some .read →
        l.takeOutcome (.reply .accepted ws) = { l with lastReply := some .accepted }.finish .done) ∧
      (∀ ws, l.takeOutcome (.reply .checkError ws) = retried { l with lastReply := some .checkError }) ∧
      (∀ c ws, c ≠ .accepted → c ≠ .checkError →
        l.takeOutcome (.reply c ws) = { l with lastReply := some c }.finish .refused) ∧
      l.takeOutcome .noReply = retried l ∧ l.takeOutcome .badReply = retried l ∧ l.takeOutcome .collision = again l ∧
      l.takeOutcome .lineLost = { l with cancelOwed := false, pendingStatus := none }.finish .offline) ∧
    (l.cancelOwed = false → l.stopMark = false → l.kind = some .signal → l.all = true →
      l.takeOutcome .sent = l.finish .done ∧ l.takeOutcome .collision = again l ∧ l.takeOutcome .noReply = retried l ∧
      l.takeOutcome .lineLost = { l with cancelOwed := false, pendingStatus := none }.finish .offline) ∧
    (l.cancelOwed = true →
      l.takeOutcome .collision = { l with state := .cancelling, job := .none } ∧
      (∀ o st, o ≠ .collision → o ≠ .lineLost → l.pendingStatus = some st →
        l.takeOutcome o = { l with cancelOwed := false, pendingStatus := none }.finish st) ∧
      l.takeOutcome .lineLost = { l with cancelOwed := false, pendingStatus := none }.finish .offline)

/-- A stop mark at an exchange end (R94): an outcome that completes the descriptor is applied; any other is not, apart
from the advance of an accepted segment that was not the last (log 17), and the lane acts as QUEUED does in R93: a SEND
with segment index at least 1 owes a cancel, any other descriptor writes STOPPED. An accepted READ stores its words and
then completes (R84). LINE LOST fails the descriptor OFFLINE all the same (R70, R95). What the model gives a lane for an
outcome that cannot come to its kind is the model's choice (log 28). -/
def Obligations.StoppedOutcomes : Prop :=
  ∀ l : Lane, l.stopMark = true → l.cancelOwed = false →
    (l.kind = some .send ∨ l.kind = some .read ∨ l.kind = some .write ∨ l.kind = some .signal →
      l.takeOutcome .lineLost = { l with cancelOwed := false, pendingStatus := none }.finish .offline) ∧
    (l.kind = some .read → ∀ w ws, (w :: ws).length = l.length → l.takeOutcome (.reply .accepted (w :: ws)) =
      { l with lastReply := some .accepted, state := .working, job := .storeRead 0 (w :: ws), frame := none }) ∧
    (l.kind = some .send →
      (∀ ws, segmentCount l.length ≤ l.segment + 1 → l.takeOutcome (.reply .accepted ws) =
        { l with segment := l.segment + 1, lastReply := some .accepted }.finish .done) ∧
      (∀ ws, l.segment + 1 < segmentCount l.length → l.takeOutcome (.reply .accepted ws) =
        { l with segment := l.segment + 1, lastReply := some .accepted }.oweCancel .stopped) ∧
      (∀ o, (∀ ws, o ≠ .reply .accepted ws) → o ≠ .lineLost →
        l.takeOutcome o = if 1 ≤ l.segment then l.oweCancel .stopped else l.finish .stopped)) ∧
    (l.kind = some .write ∨ l.kind = some .signal ∧ l.all = false →
      (∀ ws, l.takeOutcome (.reply .accepted ws) = { l with lastReply := some .accepted }.finish .done) ∧
      (∀ o, (∀ ws, o ≠ .reply .accepted ws) → o ≠ .lineLost → l.takeOutcome o = l.finish .stopped)) ∧
    (l.kind = some .read → ∀ o, (∀ ws, o ≠ .reply .accepted ws) → o ≠ .lineLost → l.takeOutcome o = l.finish .stopped) ∧
    (l.kind = some .signal → l.all = true → l.takeOutcome .sent = l.finish .done ∧
      l.takeOutcome .collision = l.finish .stopped ∧ l.takeOutcome .noReply = l.finish .stopped)

/-! ### The event queue -/

/-- A take (R150, R152, R153): with a free entry, the arbiter chooses the pending source that comes first after the
pointer, and the queue adds one entry of its report with the time base and the serial as they stand; the serial counter
advances and the pointer is set. A full queue takes nothing. -/
def Obligations.QueueTakesOneReport : Prop :=
  ∀ s : State, s.resetHeld = false →
    (64 ≤ s.queue.entries.length → exec .queueTake s = .next s) ∧
    ((∀ pos, s.sourcePending (sourceAt pos) = false) → exec .queueTake s = .next s) ∧
    (∀ pos, s.queue.entries.length < 64 → s.sourcePending (sourceAt pos) = true →
      (∀ q, s.sourcePending (sourceAt q) = true → sourcePlace s.queue.pointer pos ≤ sourcePlace s.queue.pointer q) →
      ∃ e v, s.report (sourceAt pos) = some (e, v) ∧
        exec .queueTake s = .next ({ v with queue :=
          { entries := s.queue.entries ++ [{ event := e, timestamp := s.time.micros, serial := s.queue.serial }]
            serial := s.queue.serial + 1
            pointer := pos } } : State).fill)

/-- What each source reports and what its take removes (R151, R153, Table 10.3): a lane its held event (R92), a port
the head of its completion list (R127), a window its written-pending count (R138), the signalled set (R107), the
changed-pending mask (R145), the line-state mark (R41). -/
def Obligations.ReportsOfTheSources : Prop :=
  ∀ s : State,
    (∀ (p : Fin 16) c rest, s.recv.ports[p].completions = c :: rest →
      sourceAt (Fin.ofNat 35 p.val) = .port p ∧
      s.report (.port p) = some
        ({ kind := .receiveDone, unit := p.val, peer := (match c.source with | some q => q.val | none => 63)
           status := c.status.code, length := BitVec.ofNat 16 c.length, address := BitVec.ofNat 16 c.buffer
           extra := (match c.message with | some m => m.setWidth 16 | none => 0) },
         { s with recv := { s.recv with
            ports := s.recv.ports.set p { s.recv.ports[p] with completions := rest } } })) ∧
    (∀ (i : Fin 8) e, s.lanes[i].heldEvent = some e →
      sourceAt (Fin.ofNat 35 (16 + i.val)) = .lane i ∧
      ∃ t, s.report (.lane i) = some (e, t) ∧ t = { s with lanes := s.lanes.set i t.lanes[i] } ∧
        (s.lanes[i].job = .afterNote →
          t.lanes[i] = ({ s.lanes[i] with heldEvent := none } : Lane).finish .done) ∧
        (∀ st, s.lanes[i].job = .afterDone st →
          t.lanes[i] = ({ s.lanes[i] with heldEvent := none, state := .working } : Lane).takePath i st) ∧
        (s.lanes[i].job = .afterEnded →
          t.lanes[i] = { s.lanes[i] with heldEvent := none, state := .idle, job := .none, stopMark := false })) ∧
    (∀ w : Fin 8, 0 < s.windows[w].pending →
      sourceAt (Fin.ofNat 35 (24 + w.val)) = .window w ∧
      s.report (.window w) = some
        ({ kind := .windowWritten, unit := w.val
           peer := (match s.windows[w].lastWriter with | some q => q.val | none => 63), status := 0
           length := BitVec.ofNat 16 s.windows[w].pending, address := BitVec.ofNat 16 s.windows[w].base
           extra := s.windows[w].updates },
         { s with windows := s.windows.set w { s.windows[w] with pending := 0 } })) ∧
    (s.flags.signalled ≠ 0 → sourceAt 32 = .signalled ∧
      s.report .signalled = some
        ({ kind := .signalled, unit := 0, peer := 63, status := 0, length := s.flags.signalled.setWidth 16, address := 0
           extra := (s.flags.signalled >>> 16).setWidth 16 },
         { s with flags := { s.flags with signalled := 0 } })) ∧
    (s.presence.changed ≠ 0 → sourceAt 33 = .presence ∧
      s.report .presence = some
        ({ kind := .presenceChanged, unit := 0, peer := 63, status := 0, length := s.presence.changed.setWidth 16
           address := 0, extra := (s.presence.changed >>> 16).setWidth 16 },
         { s with presence := { s.presence with changed := 0 } })) ∧
    (s.ctl.lineStatePending = true → sourceAt 34 = .lineState ∧
      s.report .lineState = some
        ({ kind := .lineState, unit := 0, peer := (match s.ctl.last with | some q => q.val | none => 63)
           status := s.ctl.participation.code + 4 * s.ctl.sync.code, length := 0, address := 0
           extra := BitVec.ofNat 16 s.ctl.reason.code },
         { s with ctl := { s.ctl with lineStatePending := false } }))

/-- The fill (R152): at its end the queue is full or no source is pending; entries are only added at the tail, each with
the time base and with successive serials (R150); buffer memory, the line interface, the scheduler, the slot and the
time base are untouched. Of the other blocks only what the takes remove changes (R153): each set, mask and mark keeps its
value or is emptied, a window keeps all but its written-pending count, which stands or is 0, a completion list loses
entries at its head, and a lane that holds no event is as it was, one that holds an event is as it was or as its take
leaves it, where a LANE ENDED posted at that take may be taken too (R91, R92). -/
def Obligations.FillEndsFullOrIdle : Prop :=
  ∀ s : State,
    (64 ≤ s.fill.queue.entries.length ∨ ∀ pos, s.fill.sourcePending (sourceAt pos) = false) ∧
    (∃ added : List Entry, s.fill.queue.entries = s.queue.entries ++ added ∧
      s.fill.queue.serial = s.queue.serial + BitVec.ofNat 16 added.length ∧
      ∀ k e, added[k]? = some e →
        e.timestamp = s.time.micros ∧ e.serial = s.queue.serial + BitVec.ofNat 16 k) ∧
    s.fill = { s with
      ctl := { s.ctl with lineStatePending := s.fill.ctl.lineStatePending }
      lanes := s.fill.lanes
      flags := { s.flags with signalled := s.fill.flags.signalled }
      recv := { s.recv with ports := s.fill.recv.ports }
      windows := s.fill.windows
      presence := { s.presence with changed := s.fill.presence.changed }
      queue := s.fill.queue } ∧
    (∀ p : Fin 16, s.fill.recv.ports[p].isOpen = s.recv.ports[p].isOpen ∧
      s.fill.recv.ports[p].posted = s.recv.ports[p].posted ∧
      s.fill.recv.ports[p].completions <:+ s.recv.ports[p].completions) ∧
    (∀ i : Fin 8, (s.lanes[i].heldEvent = none → s.fill.lanes[i] = s.lanes[i]) ∧
      (s.fill.lanes[i] = s.lanes[i] ∨ s.fill.lanes[i] = s.lanes[i].eventTaken i ∨
        (s.lanes[i].eventTaken i).heldEvent ≠ none ∧
          s.fill.lanes[i] = (s.lanes[i].eventTaken i).eventTaken i)) ∧
    (∀ w : Fin 8, s.fill.windows[w] = s.windows[w] ∨ s.fill.windows[w] = { s.windows[w] with pending := 0 }) ∧
    (s.fill.flags.signalled = s.flags.signalled ∨ s.fill.flags.signalled = 0) ∧
    (s.fill.presence.changed = s.presence.changed ∨ s.fill.presence.changed = 0) ∧
    (s.fill.ctl.lineStatePending = s.ctl.lineStatePending ∨ s.fill.ctl.lineStatePending = false)

/-- Entry words (R150, R172, Table 12.4): kind and unit in E0, peer and status in E1, the timestamp's halves in E5 and
E6, the serial in E7; the head words of the control page show the entry at the head, or 0 (R154). A host write to word 16,
whatever its value, pops the head entry, and the queue fills; on an empty queue it pops nothing (R155). The write is
one that is served at once; no read data is driven with it (R159, `HostWritesByAddress`). -/
def Obligations.HeadEntryIsShownAndPopped : Prop :=
  (∀ e : Entry, e.event.unit < 32 → e.event.peer < 64 → e.event.status < 256 →
    field e.words[0] 12 4 = e.event.kind.code ∧ field e.words[0] 0 5 = e.event.unit ∧
    field e.words[1] 10 6 = e.event.peer ∧ field e.words[1] 0 8 = e.event.status ∧
    e.words[2] = e.event.length ∧ e.words[3] = e.event.address ∧ e.words[4] = e.event.extra ∧
    e.words[6] ++ e.words[5] = e.timestamp ∧ e.words[7] = e.serial) ∧
  (∀ (s : State) (k : Fin 8),
    (s.queue.entries = [] → s.hostRead (BitVec.ofNat 15 (16384 + 8 + k.val)) = 0) ∧
    (∀ e rest, s.queue.entries = e :: rest → s.hostRead (BitVec.ofNat 15 (16384 + 8 + k.val)) = e.words[k])) ∧
  (∀ (s : State) (v : Word), s.resetHeld = false → s.hostPathFree = true →
    ∀ c ∈ [Instr.eventAcknowledge v, Instr.controlPageWrite 16 v],
      let b := { s with host := { s.host with dataOut := none } }
      (s.queue.entries = [] → exec c s = .next b) ∧
      (∀ e rest, s.queue.entries = e :: rest →
        exec c s = .next ({ b with queue := { s.queue with entries := rest } } : State).fill))

/-! ### The host port -/

/-- Host accesses by address (R158, R159, Table 11.1). A write at 0..16383 stores the word there and nowhere else, at
16384..16415 it is the write of that control page word, above it is ignored. A read drives the word of its address: the
buffer memory word, the control page word (`ControlPageShowsTheState`), or 0 above; it changes nothing else, but that a
read of word 5 latches the high word of the time base (R162, R163). Data is driven until the read's strobe ends, which it
has when the next access begins. Every access is a host claim: with no line-side claim and no host claim waiting it is
served at once; otherwise it waits, HRDY is low, and the host's earlier accesses, abandoned, come first, their reads with
no data driven. Reads but that of word 5 and the end of a strobe have no row: that the row of the host's buffer memory
write carries them, and that HRDY and the data are read off the state, is the model's choice (log 15, log 25). -/
def Obligations.HostWritesByAddress : Prop :=
  ∀ (s : State) (a : BitVec 15) (v : Word), s.resetHeld = false →
    let b := { s with host := { s.host with dataOut := none } }
    let abandoned := s.host.claims.map fun x =>
      match x with
      | .write a v => HostClaim.write a v
      | .read a _ => .read a false
    (s.hostPathFree = true → a.toNat < 16384 → ∃ t, exec (.hostMemoryWrite a (.write v)) s = .next t ∧
      t = { b with mem := { s.mem with cells := t.mem.cells } } ∧
      t.hostRead a = v ∧ (∀ x : Nat, x ≠ a.toNat → t.word x = s.word x)) ∧
    (∀ page : BitVec 5, a.toNat = 16384 + page.toNat →
      exec (.hostMemoryWrite a (.write v)) s = exec (.controlPageWrite page v) s) ∧
    (s.hostPathFree = true → 16416 ≤ a.toNat → exec (.hostMemoryWrite a (.write v)) s = .next b) ∧
    (s.hostPathFree = true → exec (.hostMemoryWrite a .read) s = .next { s with host := { s.host with
      dataOut := some (s.hostRead a)
      latch := if a = 16389 then (s.time.micros >>> 16).setWidth 16 else s.host.latch } }) ∧
    exec (.hostMemoryWrite 16389 .read) s = exec .timeBaseLowRead s ∧
    (a.toNat < 16384 → s.hostRead a = s.word a.toNat) ∧
    (16416 ≤ a.toNat → s.hostRead a = 0) ∧
    exec (.hostMemoryWrite a .readEnds) s = .next { b with host := { b.host with claims := abandoned } } ∧
    (s.hostPathFree = false → ∀ c k, (c, k) ∈ [(Instr.hostMemoryWrite a (.write v), HostClaim.write a v),
        (.hostMemoryWrite a .read, .read a true), (.timeBaseLowRead, .read 16389 true),
        (.writeInterruptEnables v, .write 16387 v), (.writeCauses v, .write 16388 v),
        (.eventAcknowledge v, .write 16400 v), (.commandWordWrite v, .write 16401 v)] →
      exec c s = .next { b with host := { b.host with claims := abandoned ++ [k] } }) ∧
    (s.hrdy = true ↔ s.host.claims = [])

/-- Host accesses to the control page that are served at once (R156, R162, R165, Table 11.2; `HostWritesByAddress`): a
write to word 3 replaces the enables, to words 18 to 23 stores a parameter while the owner is HOST, to word 17 hands a
code that is not 0 while the owner is HOST, to a read-only word is ignored. A read of word 5 drives the low word and
latches the high one (R163). A write to word 4 clears COMMAND DONE where it holds 1 (R157, R164) and changes nothing but
the two causes; LINE FAULT is `LineFaultIsSticky`. With a write no read data is driven (R159). HINT follows the queue, the
causes and the enables (R156). -/
def Obligations.ControlPageWritesAndLatch : Prop :=
  ∀ (s : State) (v : Word), s.resetHeld = false → s.hostPathFree = true →
    let b := { s with host := { s.host with dataOut := none } }
    (∀ c ∈ [Instr.writeInterruptEnables v, Instr.controlPageWrite 3 v], exec c s = .next { b with host := { b.host with
      enableEvent := v.getLsbD 0, enableLineFault := v.getLsbD 1, enableCommandDone := v.getLsbD 2 } }) ∧
    (∀ k : Fin 6,
      (s.host.owner = .host → exec (.controlPageWrite (BitVec.ofNat 5 (18 + k.val)) v) s =
        .next { b with host := { b.host with params := s.host.params.set k v } }) ∧
      (s.host.owner = .station → exec (.controlPageWrite (BitVec.ofNat 5 (18 + k.val)) v) s = .next b)) ∧
    (∀ c ∈ [Instr.commandWordWrite v, Instr.controlPageWrite 17 v],
      (s.host.owner = .station → exec c s = .next b) ∧
      (s.host.owner = .host → v.toNat % 256 = 0 → exec c s = .next { b with host := { b.host with code := 0 } }) ∧
      (s.host.owner = .host → v.toNat % 256 ≠ 0 → exec c s =
        .next { b with host := { b.host with code := v.setWidth 8, owner := .station } })) ∧
    (∀ page : BitVec 5, page.toNat ≤ 2 ∨ 5 ≤ page.toNat ∧ page.toNat ≤ 15 ∨ 24 ≤ page.toNat →
      exec (.controlPageWrite page v) s = .next b) ∧
    exec .timeBaseLowRead s = .next { s with host := { s.host with
      dataOut := some (s.time.micros.setWidth 16), latch := (s.time.micros >>> 16).setWidth 16 } } ∧
    (∃ t, exec (.writeCauses v) s = .next t ∧ exec (.controlPageWrite 4 v) s = .next t ∧
      t = { b with
        host := { b.host with commandDone := t.host.commandDone }
        line := { s.line with lineFault := t.line.lineFault } } ∧
      (v.getLsbD 2 = true → t.host.commandDone = false) ∧
      (v.getLsbD 2 = false → t.host.commandDone = s.host.commandDone)) ∧
    (s.hint = true ↔ s.queue.entries ≠ [] ∧ s.host.enableEvent = true ∨
      s.line.lineFault = true ∧ s.host.enableLineFault = true ∨
      s.host.commandDone = true ∧ s.host.enableCommandDone = true)

/-- What the control page shows (Tables 11.2, 12.5): identity, straps, station state, enables, causes, count, command
word, parameters, result, presence map (R146, Table 9.3: UNKNOWN 0, PRESENT 1, ABSENT 2, SELF 3), lane summary (R75:
IDLE 0, RUNNING 1, WAITING 2, STOPPING 3) and flags (R108). -/
def Obligations.ControlPageShowsTheState : Prop :=
  ∀ s : State, s.ctl.count ≤ 32 → s.queue.entries.length ≤ 64 →
    let page (k : Nat) := s.hostRead (BitVec.ofNat 15 (16384 + k))
    let presence (p : Fin 32) : Nat :=
      if p = s.ctl.number then 3
      else match s.presence.records[p].state with | .unknown => 0 | .present => 1 | .absent => 2
    let summary (l : Lane) : Nat :=
      if l.state = .idle then 0 else if l.stopMark then 3 else if l.state = .waiting then 2 else 1
    page 0 = 0x1801 ∧
    field (page 1) 11 5 = s.ctl.number.val ∧ field (page 1) 5 6 = s.ctl.count ∧ field (page 1) 0 2 = s.ctl.rate.val ∧
    field (page 2) 14 2 = s.ctl.participation.code ∧ field (page 2) 13 1 = s.ctl.sync.code ∧
    field (page 2) 7 6 = stationCode s.ctl.last ∧ field (page 2) 0 4 = s.ctl.reason.code ∧
    (page 3).getLsbD 0 = s.host.enableEvent ∧ (page 3).getLsbD 1 = s.host.enableLineFault ∧
    (page 3).getLsbD 2 = s.host.enableCommandDone ∧
    (page 4).getLsbD 1 = s.line.lineFault ∧ (page 4).getLsbD 2 = s.host.commandDone ∧
    page 5 = s.time.micros.setWidth 16 ∧ page 6 = s.host.latch ∧ (page 7).toNat = s.queue.entries.length ∧ page 16 = 0 ∧
    (page 17).getLsbD 15 = decide (s.host.owner = .station) ∧ field (page 17) 0 8 = s.host.code.toNat ∧
    (∀ k : Fin 6, page (18 + k.val) = s.host.params[k]) ∧ (page 24).toNat = s.host.result.code ∧
    (∀ (w : Fin 4) (k : Fin 8),
      field (page (25 + w.val)) (2 * k.val) 2 = presence (Fin.ofNat 32 (8 * w.val + k.val))) ∧
    (∀ k : Fin 8, field (page 29) (2 * k.val) 2 = summary s.lanes[k]) ∧
    page 31 ++ page 30 = s.flags.flags

/-! ### Commands of the slot -/

/-- JOIN (R24): WRONG STATE outside OFFLINE, STRAP ERROR with bad straps (R20), otherwise the station becomes ACTIVE and
UNSYNCED in a new epoch with the ANNOUNCE pending, its counters, last and timers restarted, the lanes' message number
counters 0. -/
def Obligations.JoinIsJudged : Prop :=
  ∀ s : State, s.commandWaits 1 →
    (s.ctl.participation ≠ .offline → exec .join s = .next (s.completed .wrongState).fill) ∧
    (s.ctl.participation = .offline → s.ctl.count = 1 ∨ s.ctl.count ≤ s.ctl.number.val →
      exec .join s = .next (s.completed .strapError).fill) ∧
    (s.ctl.participation = .offline → s.ctl.count ≠ 1 → s.ctl.number.val < s.ctl.count →
      exec .join s = .next (({ s with
        ctl := { s.ctl with
          epoch := s.ctl.epoch + 1
          badHeaders := 0
          ownCollisions := 0
          last := none
          participation := .active
          sync := .unsynced
          silence := some 0
          beacon := some 0
          reason := .join
          lineStatePending := true }
        sched := { s.sched with pendingAnnounce := true }
        lanes := s.lanes.map fun l => { l with messageCounter := 0 } } : State).completed .ok).fill)

/-- LEAVE (R25) and the drain test (R26): WRONG STATE in OFFLINE; from ACTIVE to LEAVING, and at once to OFFLINE with
reason DRAINED when no lane has line work or owes a cancel and no exchange is open; forced from LEAVING and FAULTED.
The two changes of a LEAVE that finds the drain complete set one pending mark (R25), with no take of the queue between
them; a take in progress comes to its end before (log 27). DRAIN_COMPLETE is a test of its own, which otherwise does nothing
(log 8). -/
def Obligations.LeaveAndDrain : Prop :=
  ∀ s : State,
    let drained := (∀ i : Fin 8, s.lanes[i].lineWork = false ∧ s.lanes[i].cancelOwed = false) ∧ s.sched.exchange = none
    let leaving (b : State) : State :=
      { b with ctl := { b.ctl with reason := .leave, lineStatePending := true, participation := .leaving } }
    (s.commandWaits 2 →
      (s.ctl.participation = .offline → exec .leave s = .next (s.completed .wrongState).fill) ∧
      (s.ctl.participation = .active → ¬drained → exec .leave s = .next ((leaving s).completed .ok).fill) ∧
      (s.ctl.participation = .active → drained →
        exec .leave s = .next (((leaving s.settleTake).enterOffline .drained).completed .ok).fill) ∧
      (s.ctl.participation = .leaving ∨ s.ctl.participation = .faulted →
        exec .leave s = .next ((s.enterOffline .forced).completed .ok).fill)) ∧
    (s.resetHeld = false →
      (s.ctl.participation = .leaving → drained → exec .drainComplete s = .next (s.enterOffline .drained).fill) ∧
      (s.ctl.participation ≠ .leaving ∨ ¬drained → exec .drainComplete s = .next s.fill))

/-- Entry to OFFLINE (R27, R54, R70, R71, R95, R126, R144) and entry to FAULTED (R28, R54, R70, R71, R95, R126), block by
block. Both act on the line, the scheduler and the lanes alike, keep every open mark and posted buffer, and abandon every
context; OFFLINE makes the stream records invalid and the peers UNKNOWN, FAULTED keeps both. That a reply not yet begun
is dropped at this moment is log 19, and that the receive unit acts after a take in progress is log 27. -/
def Obligations.EntryToOffline : Prop :=
  ∀ (s : State) (r : Reason) (t : State) (p : Participation),
    t = s.enterOffline r ∧ p = .offline ∨ t = s.enterFaulted r ∧ p = .faulted →
    let b := s.settleTake
    t = { b with
      ctl := { s.ctl with
        participation := p, sync := .unsynced, last := none, silence := none, beacon := none, reason := r
        lineStatePending := true }
      sched := { s.sched with
        pendingAnnounce := false
        beaconDue := false
        reoffer := none
        exchange := s.sched.exchange.map fun x => { x with lineLost := true } }
      line := { s.line with reply := none }
      lanes := t.lanes
      recv := t.recv
      presence := t.presence } ∧
    (∀ i : Fin 8, let l := b.lanes[i]
      ((l.lineWork = true ∨ l.cancelOwed = true) → l.state = .queued ∨ l.state = .cancelling ∨ l.state = .held ∨
          (l.state = .working ∧ ∃ got, l.job = .readPayload got) →
        t.lanes[i] = { l with
          state := .working, job := .writeProgress .offline, cancelOwed := false, pendingStatus := none
          frame := none, hold := none }) ∧
      (l.lineWork = false → l.cancelOwed = false → t.lanes[i] = l) ∧
      (l.state = .exchange ∨ l.state = .waiting ∨ l.state = .reporting ∨ l.state = .idle ∨
          (l.state = .working ∧ ∀ got, l.job ≠ .readPayload got) → t.lanes[i] = l)) ∧
    (∀ i : Fin 12, t.recv.contexts[i] = none) ∧
    (∀ q : Fin 16, t.recv.ports[q].isOpen = b.recv.ports[q].isOpen ∧
      t.recv.ports[q].posted = b.recv.ports[q].posted ∧
      t.recv.ports[q].completions = b.recv.ports[q].completions ++ b.recv.abandonedEntries .offline (fun _ => true) q ∧
      t.recv.bufferCount q = b.recv.bufferCount q) ∧
    (p = .offline →
      (∀ (q : Fin 32) (l : Fin 8), t.recv.stream q l = none) ∧
      (∀ q : Fin 32,
        (q = s.ctl.number → t.presence.records[q] = s.presence.records[q]) ∧
        (q ≠ s.ctl.number → t.presence.records[q] = PresenceRecord.unknown) ∧
        t.presence.changed.getLsbD q.val =
          (b.presence.changed.getLsbD q.val || (q != s.ctl.number && s.presence.records[q].state != .unknown)))) ∧
    (p = .faulted → t.recv.streams = b.recv.streams ∧ t.presence = b.presence)

/-- START LANE (R76) and STOP LANE (R93), judged in the order of their rules, with the effect of a stop in each lane
state. The lane's job, its validated mark and its mark of a removal handed on are the model's own fields (log 31). -/
def Obligations.LaneCommands : Prop :=
  ∀ s : State,
    (s.commandWaits 3 →
      (7 < s.host.params[0].toNat → exec .startLane s = .next (s.completed .badParameter).fill) ∧
      (∀ i : Fin 8, s.host.params[0].toNat = i.val →
        (16376 < s.host.params[1].toNat → exec .startLane s = .next (s.completed .badParameter).fill) ∧
        (s.host.params[1].toNat ≤ 16376 → s.lanes[i].state ≠ .idle →
          exec .startLane s = .next (s.completed .laneBusy).fill) ∧
        (s.host.params[1].toNat ≤ 16376 → s.lanes[i].state = .idle →
          exec .startLane s = .next (({ s with lanes := s.lanes.set i { s.lanes[i] with
            state := .working
            address := s.host.params[1].toNat
            job := .fetch 0
            stopMark := false
            cancelOwed := false
            pendingStatus := none
            heldEvent := none
            validated := false } } : State).completed .ok).fill))) ∧
    (s.commandWaits 4 →
      (7 < s.host.params[0].toNat → exec .stopLane s = .next (s.completed .badParameter).fill) ∧
      (∀ i : Fin 8, s.host.params[0].toNat = i.val →
        let l := s.lanes[i]
        let marked := { l with stopMark := true }
        (l.state = .idle → exec .stopLane s = .next (s.completed .notRunning).fill) ∧
        (l.state ≠ .idle → ∃ m, exec .stopLane s =
            .next (({ s with lanes := s.lanes.set i m } : State).completed .ok).fill ∧ m.stopMark = true ∧
          (l.state = .waiting → m = { marked with removalHanded := true }) ∧
          (l.state = .queued ∨ l.state = .held → l.kind = some .send ∧ 1 ≤ l.segment → m = { marked with
            state := .cancelling, job := .none, cancelOwed := true, pendingStatus := some .stopped
            frame := some
              { head :=
                  { kind := .cancel, destination := l.destination, all := false, selector := Fin.ofNat 32 l.port
                    h2 := segmentWord l.messageNumber 0, h3 := 0 }
                payload := [] }
            hold := none }) ∧
          (l.state = .queued ∨ l.state = .held → ¬(l.kind = some .send ∧ 1 ≤ l.segment) → m = { marked with
            state := .working, job := .writeProgress .stopped, frame := none, hold := none }) ∧
          (l.state = .exchange ∨ l.state = .cancelling ∨ l.state = .working ∨ l.state = .reporting → m = marked))))

/-- OPEN PORT (R112), CLOSE PORT (R113) and POST RECEIVE (R111). A result other than OK changes nothing but the slot and
COMMAND DONE (R166); a command that is OK is carried out by the receive unit after a take in progress (log 27). -/
def Obligations.PortCommands : Prop :=
  ∀ s : State,
    let b := s.settleTake
    (15 < s.host.params[0].toNat →
      (s.commandWaits 5 → exec .openPort s = .next (s.completed .badParameter).fill) ∧
      (s.commandWaits 6 → exec .closePort s = .next (s.completed .badParameter).fill) ∧
      (s.commandWaits 7 → exec .postReceive s = .next (s.completed .badParameter).fill)) ∧
    (∀ p : Fin 16, s.host.params[0].toNat = p.val →
      (s.commandWaits 5 → exec .openPort s = .next (({ b with recv := { b.recv with
        ports := b.recv.ports.set p { b.recv.ports[p] with isOpen := true } } } : State).completed .ok).fill) ∧
      (s.commandWaits 6 → ∃ r : ReceiveUnit, exec .closePort s =
          .next (({ b with recv := r } : State).completed .ok).fill ∧
        r.streams = b.recv.streams ∧
        (∀ q : Fin 16, q ≠ p → r.ports[q] = b.recv.ports[q]) ∧
        r.ports[p].isOpen = false ∧ r.ports[p].posted = [] ∧
        r.ports[p].completions =
          b.recv.ports[p].completions ++ b.recv.abandonedEntries .closed (fun c => c.port == p) p ++
            b.recv.ports[p].posted.map (fun x =>
              ({ buffer := x.address, status := .returned, length := 0, source := none, message := none } : Completion)) ∧
        (∀ i : Fin 12, r.contexts[i] = b.recv.contexts[i].filter fun c => c.port != p) ∧
        r.bufferCount p = b.recv.bufferCount p) ∧
      (s.commandWaits 7 →
        let a := s.host.params[1].toNat
        let n := s.host.params[2].toNat
        (n < 1 ∨ 2048 < n ∨ 16383 < a ∨ 16384 < a + n →
          exec .postReceive s = .next (s.completed .badParameter).fill) ∧
        (1 ≤ n → n ≤ 2048 → a + n ≤ 16384 → s.recv.bufferCount p = 8 →
          exec .postReceive s = .next (s.completed .portFull).fill) ∧
        (1 ≤ n → n ≤ 2048 → a + n ≤ 16384 → s.recv.bufferCount p ≠ 8 →
          exec .postReceive s = .next (({ b with recv := { b.recv with
            ports := b.recv.ports.set p { b.recv.ports[p] with
              posted := b.recv.ports[p].posted ++ [{ address := a, capacity := n }] } } } : State).completed .ok).fill ∧
          ({ b.recv with ports := b.recv.ports.set p { b.recv.ports[p] with
              posted := b.recv.ports[p].posted ++ [{ address := a, capacity := n }] } } : ReceiveUnit).bufferCount p =
            b.recv.bufferCount p + 1)))

/-- LOAD WINDOW (R131) and CLEAR WINDOW (R132). A result other than OK changes nothing but the slot and COMMAND DONE
(R166); a command that is OK is carried out by the window unit after a take in progress (R136; log 27). -/
def Obligations.WindowCommands : Prop :=
  ∀ s : State,
    let b := s.settleTake
    (7 < s.host.params[0].toNat →
      (s.commandWaits 8 → exec .loadWindow s = .next (s.completed .badParameter).fill) ∧
      (s.commandWaits 9 → exec .clearWindow s = .next (s.completed .badParameter).fill)) ∧
    (∀ w : Fin 8, s.host.params[0].toNat = w.val →
      (s.commandWaits 9 → exec .clearWindow s = .next (({ b with
        windows := b.windows.set w { b.windows[w] with enabled := false } } : State).completed .ok).fill) ∧
      (s.commandWaits 8 →
        let base := s.host.params[1].toNat
        let n := s.host.params[2].toNat
        (16383 < base ∨ n < 1 ∨ 16384 < n ∨ 16384 < base + n →
          exec .loadWindow s = .next (s.completed .badParameter).fill) ∧
        (1 ≤ n → base + n ≤ 16384 →
          exec .loadWindow s = .next (({ b with
            windows := b.windows.set w
              { enabled := true
                base := base
                length := n
                readAllowed := s.host.params[3].getLsbD 0
                writeAllowed := s.host.params[3].getLsbD 1
                notify := s.host.params[3].getLsbD 2
                peers := s.host.params[5] ++ s.host.params[4]
                updates := 0
                lastWriter := b.windows[w].lastWriter
                pending := b.windows[w].pending } } : State).completed .ok).fill)))

/-- SET FLAGS and CLEAR FLAGS (R104), SET SIGNAL MASKS (R105), and an unknown command (R166). SET FLAGS sets each named
flag by R99: the lanes it releases from the lists of named flags that were clear go on to write DONE, every other lane and
every list of an unnamed flag stays as it is. A take acts only on a waiting command of its own code (log 16), the take of
an unknown command on a code of 13 to 255. -/
def Obligations.FlagCommandsAndTakes : Prop :=
  ∀ s : State,
    let named (f : Fin 32) : Prop := (s.host.params[1] ++ s.host.params[0]).getLsbD f.val = true
    (s.commandWaits 10 → ∃ u : State, exec .setFlags s = .next (u.completed .ok).fill ∧
      u = { s with flags := { s.flags with flags := u.flags.flags, lists := u.flags.lists }, lanes := u.lanes } ∧
      (∀ f : Fin 32, ¬named f →
        u.flags.isSet f = s.flags.isSet f ∧ u.flags.lists[f] = s.flags.lists[f]) ∧
      (∀ f : Fin 32, named f →
        u.flags.isSet f = (s.setFlag f).flags.isSet f ∧ u.flags.lists[f] = (s.setFlag f).flags.lists[f]) ∧
      (∀ i : Fin 8,
        let released : Prop := ∃ f : Fin 32, named f ∧ s.flags.isSet f = false ∧
          ∃ before after c, s.flags.lists[f] = before ++ { lane := i, consume := c } :: after ∧
            (c = true → ∀ e ∈ before, e.consume = false)
        (released → u.lanes[i] = { s.lanes[i] with
          state := .working, job := .writeProgress .done, wait := none, expiryHanded := false
          removalHanded := false, frame := none, hold := none }) ∧
        (¬released → u.lanes[i] = s.lanes[i]))) ∧
    (s.commandWaits 11 → exec .clearFlags s = .next (({ s with flags := { s.flags with
      flags := s.flags.flags &&& ~~~(s.host.params[1] ++ s.host.params[0]) } } : State).completed .ok).fill) ∧
    (s.commandWaits 12 → exec .setSignalMasks s = .next (({ s with flags := { s.flags with
      accept := s.host.params[1] ++ s.host.params[0]
      notify := s.host.params[3] ++ s.host.params[2] } } : State).completed .ok).fill) ∧
    (∀ n, 13 ≤ n → s.commandWaits n → exec .unknownCommand s = .next (s.completed .unknownCommand).fill) ∧
    (s.resetHeld = false →
      (s.host.owner = .host → ∀ c ∈ [Instr.join, .leave, .startLane, .stopLane, .openPort, .closePort, .postReceive,
        .loadWindow, .clearWindow, .setFlags, .clearFlags, .setSignalMasks, .unknownCommand], exec c s = .next s) ∧
      (s.host.code.toNat < 13 → exec .unknownCommand s = .next s) ∧
      (∀ c n, (c, n) ∈ [(Instr.join, 1), (.leave, 2), (.startLane, 3), (.stopLane, 4), (.openPort, 5), (.closePort, 6),
        (.postReceive, 7), (.loadWindow, 8), (.clearWindow, 9), (.setFlags, 10), (.clearFlags, 11),
        (.setSignalMasks, 12)] → s.host.code.toNat ≠ n → exec c s = .next s))

/-! ### Frames taken from the line -/

/-- A frame end (R4, R7, R18): a station off the line drops the delivery (R22). A valid header of the contention class
teaches last by its source (R30), a REPLY of the reply class by its destination (R31), NONE for a number of N or more;
both give sync with reason HEARD (R29) and clear the bad-header counter, which any other valid header clears too. A
header check failure (R34, R35): the contention class takes sync away with reason HEADER; while UNSYNCED it counts, and
the sixteenth takes the station to FAULTED. With no frame being taken in there is no frame end (log 6). The take of the
delivery before is complete first (log 27). -/
def Obligations.HeadersTeachAndFail : Prop :=
  ∀ (s : State) (f : FrameEnd), s.resetHeld = false →
    let d := s.incoming f.words
    let b := s.settleTake
    let e := s.atFrameEnd
    let quiet := s.ctl.silence.map fun _ => 0
    let taught (p : Fin 32) := { s.ctl with
      silence := quiet
      last := if p.val < s.ctl.count then some p else none
      badHeaders := 0
      sync := .synced
      reason := if s.ctl.sync = .unsynced then .heard else s.ctl.reason
      lineStatePending := b.ctl.lineStatePending || s.ctl.sync == .unsynced }
    (s.line.takingIn = false → exec (.frameDelivery f) s = .next s) ∧
    e = { b with
      line := { s.line with
        frameOver := true, idleTime := some 0, gap := if s.line.rxClass = .contention then some 0 else none
        reply := none }
      ctl := { b.ctl with silence := quiet } } ∧
    (s.line.takingIn = true → s.onLine = false → exec (.frameDelivery f) s = .next e.fill) ∧
    (s.line.rxClass = .contention → (s.afterHeader f.words).ctl = taught d.header.source) ∧
    (s.line.rxClass = .reply → d.header.kind = some .reply → (s.afterHeader f.words).ctl = taught d.header.destination) ∧
    (s.line.rxClass = .reply → d.header.kind ≠ some .reply →
      (s.afterHeader f.words).ctl = { b.ctl with silence := quiet, badHeaders := 0 }) ∧
    (s.line.takingIn = true → s.onLine = true → d.headerGood = false →
      (s.line.rxClass = .reply → s.ctl.sync = .synced → exec (.frameDelivery f) s = .next e.fill) ∧
      (s.line.rxClass = .contention ∨ s.ctl.sync = .unsynced →
        (s.ctl.badHeaders + 1 < 16 → exec (.frameDelivery f) s = .next ({ e with
          ctl := { e.ctl with
            sync := .unsynced
            reason := if s.ctl.sync = .synced then .header else s.ctl.reason
            lineStatePending := b.ctl.lineStatePending || s.ctl.sync == .synced
            badHeaders := s.ctl.badHeaders + 1 } } : State).fill) ∧
        (16 ≤ s.ctl.badHeaders + 1 → ∃ u : State, exec (.frameDelivery f) s = .next u.fill ∧
          u = ({ e with ctl := { e.ctl with
            sync := .unsynced
            reason := if s.ctl.sync = .synced then .header else s.ctl.reason
            lineStatePending := b.ctl.lineStatePending || s.ctl.sync == .synced
            badHeaders := s.ctl.badHeaders + 1 } } : State).enterFaulted .lineUnusable ∧
          u.ctl = { s.ctl with
            silence := none
            beacon := none
            last := none
            sync := .unsynced
            participation := .faulted
            reason := .lineUnusable
            lineStatePending := true
            badHeaders := s.ctl.badHeaders + 1 } ∧
          u.line = e.line ∧ u.sched.pendingAnnounce = false ∧ u.sched.beaconDue = false ∧ u.sched.reoffer = none ∧
          (∀ x, u.sched.exchange = some x → x.lineLost = true) ∧
          (∀ i : Fin 12, u.recv.contexts[i] = none) ∧ u.recv.streams = e.recv.streams ∧ u.presence = e.presence ∧
          (∀ q : Fin 16, u.recv.ports[q].completions =
            e.recv.ports[q].completions ++ e.recv.abandonedEntries .offline (fun _ => true) q) ∧
          u.flags = e.flags ∧ u.windows = e.windows ∧ u.mem = e.mem ∧ u.queue = e.queue ∧ u.host = s.host)))

/-- A valid header at the presence table (R141, R142): the record of another station of the line becomes PRESENT with the
header's epoch and a timer at 0, and the peer joins the changed-pending mask on a change of state or epoch. A changed
epoch purges the peer (R125): its contexts are abandoned PEER RESTARTED and its stream records become invalid. Nothing
else changes before the judgement. -/
def Obligations.HeadersAreHeard : Prop :=
  ∀ (s : State) (f : FrameEnd),
    let h := (s.incoming f.words).header
    let e := s.atFrameEnd
    let b := s.afterHeader f.words
    let old := s.presence.records[h.source]
    b = { e with ctl := b.ctl, presence := b.presence, recv := b.recv } ∧
    (s.ctl.count ≤ h.source.val ∨ h.source = s.ctl.number → b.presence = e.presence ∧ b.recv = e.recv) ∧
    (h.source.val < s.ctl.count → h.source ≠ s.ctl.number →
      b.presence.records = s.presence.records.set h.source
        { state := .present, epoch := some h.epoch, heard := some 0 } ∧
      (old.state ≠ .present ∨ (∃ x, old.epoch = some x ∧ x ≠ h.epoch) →
        b.presence.changed = e.presence.changed ||| BitVec.twoPow 32 h.source.val) ∧
      (old.state = .present → old.epoch = none ∨ old.epoch = some h.epoch →
        b.presence.changed = e.presence.changed) ∧
      (old.epoch = none ∨ old.epoch = some h.epoch → b.recv = e.recv) ∧
      (∀ x, old.epoch = some x → x ≠ h.epoch →
        (∀ i : Fin 12, b.recv.contexts[i] = e.recv.contexts[i].filter fun c => c.source != h.source) ∧
        (∀ (p : Fin 32) (l : Fin 8), b.recv.stream p l = if p = h.source then none else e.recv.stream p l) ∧
        (∀ q : Fin 16, b.recv.ports[q].isOpen = e.recv.ports[q].isOpen ∧
          b.recv.ports[q].posted = e.recv.ports[q].posted ∧ b.recv.bufferCount q = e.recv.bufferCount q ∧
          b.recv.ports[q].completions = e.recv.ports[q].completions ++
            e.recv.abandonedEntries .peerRestarted (fun c => c.source == h.source) q)))

/-- The order of judgement (R48 to R52, R54): a misplaced frame and one that is not for this station go no further; a
malformed one is answered REFUSED-MALFORMED where a reply is owed, and a payload fault, a bad payload result or a count that
is not the one the kind expects (R46), CHECK-ERROR; ANNOUNCE and BEACON
ask for nothing more. -/
def Obligations.DeliveriesAreJudgedInOrder : Prop :=
  ∀ (s : State) (f : FrameEnd),
    let d := s.incoming f.words
    let h := d.header
    let b := s.afterHeader f.words
    let answer (c : ReplyCode) : State :=
      { b with line := { b.line with reply := some { request := h, code := c, words := [], waited := 0 } } }
    let addressed : Prop :=
      h.kind = some .data ∨ h.kind = some .cancel ∨ h.kind = some .read ∨ h.kind = some .write ∨
        h.kind = some .signal ∧ h.all = false
    let broadcast : Prop := h.kind = some .announce ∨ h.kind = some .beacon ∨ h.kind = some .signal ∧ h.all = true
    (h.misplaced s.line.rxClass = true ↔
      h.kind = some .reply ∧ s.line.rxClass = .contention ∨
        h.kind ≠ some .reply ∧ h.kind ≠ none ∧ s.line.rxClass = .reply) ∧
    (h.isFor s.ctl.number = true ↔ h.source ≠ s.ctl.number ∧
      (broadcast ∨ (addressed ∨ h.kind = some .reply) ∧ h.destination = s.ctl.number)) ∧
    (h.malformed s.ctl.count = true ↔ h.kind = none ∨ s.ctl.count ≤ h.source.val ∨
      h.kind = some .data ∧ h.messageLength ≤ 32 * h.index ∨
      (h.kind = some .data ∨ h.kind = some .cancel) ∧ 15 < h.selector.val ∨
      (h.kind = some .read ∨ h.kind = some .write) ∧ 7 < h.selector.val) ∧
    (d.payloadFault = true ↔ d.payloadGood = false ∨ d.payload.length ≠
      match h.kind with
      | some .data => if 32 * (h.index + 1) ≤ h.messageLength then 32 else h.messageLength - 32 * h.index
      | some .write => h.wordCount
      | some .reply => h.replyCount
      | some .announce | some .beacon | some .cancel | some .read | some .signal | none => 0) ∧
    (s.delivers f.words →
      (h.misplaced s.line.rxClass = true ∨ h.isFor s.ctl.number = false →
        exec (.frameDelivery f) s = .next b.fill) ∧
      (h.misplaced s.line.rxClass = false → h.isFor s.ctl.number = true →
        (h.malformed s.ctl.count = true → addressed →
          exec (.frameDelivery f) s = .next (answer .refusedMalformed).fill) ∧
        (h.malformed s.ctl.count = true → ¬addressed → exec (.frameDelivery f) s = .next b.fill) ∧
        (h.malformed s.ctl.count = false → h.kind = some .announce ∨ h.kind = some .beacon →
          exec (.frameDelivery f) s = .next b.fill) ∧
        (h.malformed s.ctl.count = false → d.payloadFault = true → addressed →
          exec (.frameDelivery f) s = .next (answer .checkError).fill) ∧
        (h.malformed s.ctl.count = false → d.payloadFault = true → h.kind = some .signal → h.all = true →
          exec (.frameDelivery f) s = .next b.fill)))

/-- DATA that reaches the receive unit (Table 7.4, R118, R119): a closed port is REFUSED-CLOSED. With an open context of
the frame's key, a segment of the same message that was stored before is ACCEPTED and restarts the timer, the awaited one
is stored at its place and ACCEPTED, a later one abandons the context with GAP and is REFUSED-STRAY; a segment above 0 of
another message is REFUSED-STRAY. The store is a take of word accesses, all served in the event or the first of them
(R161; log 27); `finishTake` gives the state after the last (`LaneClaimsAreServedInTurn`). -/
def Obligations.DataAtAnOpenContext : Prop :=
  ∀ (s : State) (f : FrameEnd), s.reachesBlock f.words → (s.incoming f.words).header.kind = some .data →
    let h := (s.incoming f.words).header
    let payload := (s.incoming f.words).payload
    let b := s.afterHeader f.words
    let answer (t : State) (c : ReplyCode) : State :=
      { t with line := { t.line with reply := some { request := h, code := c, words := [], waited := 0 } } }
    (s.recv.ports[h.port].isOpen = false → exec (.frameDelivery f) s = .next (answer b .refusedClosed).fill) ∧
    (∀ (i : Fin 12) (c : Context), s.recv.ports[h.port].isOpen = true → b.recv.contexts[i] = some c →
      c.source = h.source → c.lane = h.sourceLane →
      (∀ (j : Fin 12) d, b.recv.contexts[j] = some d → d.source = h.source → d.lane = h.sourceLane → j = i) →
      let same := c.message = h.message ∧ c.port = h.port ∧ c.length = h.messageLength
      let withContext (r : ReceiveUnit) (x : Option Context) : State :=
        { b with recv := { r with contexts := b.recv.contexts.set i x } }
      (same → h.index < c.next → exec (.frameDelivery f) s =
        .next (answer (withContext b.recv (some { c with age := 0 })) .accepted).fill) ∧
      (same → c.next < h.index → exec (.frameDelivery f) s = .next (answer (withContext { b.recv with
        ports := b.recv.ports.set c.port { b.recv.ports[c.port] with
          completions := b.recv.ports[c.port].completions ++
            [{ buffer := c.buffer.address, status := .gap, length := c.stored, source := some c.source
               message := some c.message }] } } none) .refusedStray).fill) ∧
      (¬same → 0 < h.index → exec (.frameDelivery f) s = .next (answer b .refusedStray).fill) ∧
      (same → h.index = c.next → c.buffer.address + 32 * c.next + payload.length ≤ 16384 →
        let take : LineTake :=
          { address := c.buffer.address + 32 * c.next
            work := .store payload
              (.segment i { c with stored := c.stored + payload.length, next := c.next + 1, age := 0 } false)
            claimed := false }
        let u : State := answer { b with mem := { b.mem with take := some take } } .accepted
        ∃ t : State, exec (.frameDelivery f) s = .next (u.servesTake f.pause).fill ∧ u.finishTake = answer t .accepted ∧
          t = { b with recv := t.recv, mem := { b.mem with cells := t.mem.cells } } ∧
          (∀ k w, payload[k]? = some w → t.word (c.buffer.address + 32 * c.next + k) = w) ∧
          (∀ a, a < c.buffer.address + 32 * c.next ∨ c.buffer.address + 32 * c.next + payload.length ≤ a →
            t.word a = b.word a) ∧
          (c.next + 1 ≠ segmentCount c.length → t.recv = { b.recv with
            contexts := b.recv.contexts.set i
              (some { c with stored := c.stored + payload.length, next := c.next + 1, age := 0 }) }) ∧
          (c.next + 1 = segmentCount c.length →
            t.recv.contexts = b.recv.contexts.set i none ∧
            t.recv.ports = b.recv.ports.set c.port { b.recv.ports[c.port] with
              completions := b.recv.ports[c.port].completions ++
                [{ buffer := c.buffer.address, status := .complete, length := c.length, source := some c.source
                   message := some c.message }] } ∧
            (∀ (p : Fin 32) (l : Fin 8), t.recv.stream p l =
              if p = c.source ∧ l = c.lane then some { epoch := c.epoch, lastCompleted := c.message }
              else b.recv.stream p l))))

/-- DATA with no open context of its key, or with segment 0 of another message, which first abandons the context with
SUPERSEDED (Table 7.4, R118, R120, R121): a message its stream record shows completed is ACCEPTED again and a segment
above 0 is REFUSED-STRAY; a new message meets, in this order, BUSY-PENDING, BUSY-NO-BUFFER, BUSY-NO-CONTEXT and
REFUSED-LENGTH, and otherwise takes the port's first buffer and the lowest free entry and stores segment 0, by a take as
in `DataAtAnOpenContext`. That a completion added within the same delivery makes the port BUSY-PENDING even where the
event queue has a free entry is the model's choice (log 7). -/
def Obligations.DataOpensAContext : Prop :=
  ∀ (s : State) (f : FrameEnd) (r : ReceiveUnit), s.reachesBlock f.words → (s.incoming f.words).header.kind = some .data →
    let h := (s.incoming f.words).header
    let payload := (s.incoming f.words).payload
    let b := s.afterHeader f.words
    let base : State := { b with recv := r }
    let answer (t : State) (c : ReplyCode) : State :=
      { t with line := { t.line with reply := some { request := h, code := c, words := [], waited := 0 } } }
    s.recv.ports[h.port].isOpen = true →
    ((∀ (j : Fin 12) d, b.recv.contexts[j] = some d → d.source = h.source → d.lane = h.sourceLane → False) ∧
        r = b.recv ∨
      ∃ (i : Fin 12) (c : Context), b.recv.contexts[i] = some c ∧ c.source = h.source ∧ c.lane = h.sourceLane ∧
        (∀ (j : Fin 12) d, b.recv.contexts[j] = some d → d.source = h.source → d.lane = h.sourceLane → j = i) ∧
        ¬(c.message = h.message ∧ c.port = h.port ∧ c.length = h.messageLength) ∧ h.index = 0 ∧
        r = { b.recv with
          contexts := b.recv.contexts.set i none
          ports := b.recv.ports.set c.port { b.recv.ports[c.port] with
            completions := b.recv.ports[c.port].completions ++
              [{ buffer := c.buffer.address, status := .superseded, length := c.stored, source := some c.source
                 message := some c.message }] } }) →
    let again := ∃ x, r.stream h.source h.sourceLane = some x ∧ x.epoch = h.epoch ∧ x.lastCompleted = h.message
    let port := r.ports[h.port]
    (again → exec (.frameDelivery f) s = .next (answer base .accepted).fill) ∧
    (¬again → 0 < h.index → exec (.frameDelivery f) s = .next (answer base .refusedStray).fill) ∧
    (¬again → h.index = 0 →
      (port.completions ≠ [] → exec (.frameDelivery f) s = .next (answer base .busyPending).fill) ∧
      (port.completions = [] → port.posted = [] →
        exec (.frameDelivery f) s = .next (answer base .busyNoBuffer).fill) ∧
      (port.completions = [] → port.posted ≠ [] → (∀ i : Fin 12, r.contexts[i] ≠ none) →
        exec (.frameDelivery f) s = .next (answer base .busyNoContext).fill) ∧
      (∀ buf rest, ∀ i : Fin 12, port.completions = [] → port.posted = buf :: rest → r.contexts[i] = none →
        (∀ j : Fin 12, j < i → r.contexts[j] ≠ none) →
        (buf.capacity < h.messageLength → exec (.frameDelivery f) s = .next (answer base .refusedLength).fill) ∧
        (h.messageLength ≤ buf.capacity → buf.address + payload.length ≤ 16384 →
          let opened : Context :=
            { source := h.source, lane := h.sourceLane, epoch := h.epoch, port := h.port, message := h.message
              length := h.messageLength, next := 1, buffer := buf, stored := payload.length, age := 0 }
          let take : LineTake :=
            { address := buf.address, work := .store payload (.segment i opened true), claimed := false }
          let u : State := answer { base with mem := { b.mem with take := some take } } .accepted
          ∃ t : State, exec (.frameDelivery f) s = .next (u.servesTake f.pause).fill ∧ u.finishTake = answer t .accepted ∧
            t = { b with recv := t.recv, mem := { b.mem with cells := t.mem.cells } } ∧
            (∀ k w, payload[k]? = some w → t.word (buf.address + k) = w) ∧
            (∀ a, a < buf.address ∨ buf.address + payload.length ≤ a → t.word a = b.word a) ∧
            (32 < h.messageLength →
              t.recv.streams = r.streams ∧ t.recv.ports = r.ports.set h.port { port with posted := rest } ∧
              t.recv.contexts = r.contexts.set i (some opened)) ∧
            (h.messageLength ≤ 32 →
              t.recv.ports = r.ports.set h.port { port with
                posted := rest
                completions := [{ buffer := buf.address, status := .complete, length := h.messageLength
                                  source := some h.source, message := some h.message }] } ∧
              t.recv.contexts = r.contexts ∧
              (∀ (p : Fin 32) (l : Fin 8), t.recv.stream p l =
                if p = h.source ∧ l = h.sourceLane then some { epoch := h.epoch, lastCompleted := h.message }
                else r.stream p l)))))

/-- Remote READ and WRITE at the window unit (Table 8.2, R133 to R135): REFUSED-WINDOW for an entry that is not enabled,
REFUSED-BOUNDS for words beyond its length, REFUSED-DENIED for a peer outside the mask or a kind not allowed. An accepted
WRITE stores its payload at base plus offset and nowhere else, advances the update count, records the writer and, with
notify, counts one more written-pending up to 65535. An accepted READ is answered with the words, and changes nothing. The
store and the fetch are takes as in `DataAtAnOpenContext`. -/
def Obligations.RemoteReadAndWrite : Prop :=
  ∀ (s : State) (f : FrameEnd), s.reachesBlock f.words →
    let h := (s.incoming f.words).header
    let payload := (s.incoming f.words).payload
    let b := s.afterHeader f.words
    let w := b.windows[h.window]
    let answer (t : State) (c : ReplyCode) (words : List Word) : State :=
      { t with line := { t.line with reply := some { request := h, code := c, words := words, waited := 0 } } }
    let permitted := w.peers.getLsbD h.source.val = true ∧
      if h.kind = some .read then w.readAllowed = true else w.writeAllowed = true
    h.kind = some .read ∨ h.kind = some .write →
    (w.enabled = false → exec (.frameDelivery f) s = .next (answer b .refusedWindow []).fill) ∧
    (w.enabled = true → w.length < h.offset + h.wordCount →
      exec (.frameDelivery f) s = .next (answer b .refusedBounds []).fill) ∧
    (w.enabled = true → h.offset + h.wordCount ≤ w.length → ¬permitted →
      exec (.frameDelivery f) s = .next (answer b .refusedDenied []).fill) ∧
    (w.enabled = true → h.offset + h.wordCount ≤ w.length → permitted → w.base + h.offset + h.wordCount ≤ 16384 →
      let take (work : LineWork) : LineTake := { address := w.base + h.offset, work := work, claimed := false }
      let begun (work : LineWork) : State := answer { b with mem := { b.mem with take := some (take work) } } .accepted []
      (h.kind = some .read →
        exec (.frameDelivery f) s = .next ((begun (.fetch h.wordCount [])).servesTake f.pause).fill ∧
        (begun (.fetch h.wordCount [])).finishTake =
          answer b .accepted ((List.range h.wordCount).map fun k => b.word (w.base + h.offset + k))) ∧
      (h.kind = some .write → ∃ t : State,
        exec (.frameDelivery f) s = .next ((begun (.store payload (.window h.window h.source))).servesTake f.pause).fill ∧
        (begun (.store payload (.window h.window h.source))).finishTake = answer t .accepted [] ∧
        t = { b with mem := { b.mem with cells := t.mem.cells }, windows := b.windows.set h.window { w with
          updates := w.updates + 1
          lastWriter := some h.source
          pending := if w.notify then (if w.pending < 65535 then w.pending + 1 else 65535) else w.pending } } ∧
        payload.length = h.wordCount ∧
        (∀ k x, payload[k]? = some x → t.word (w.base + h.offset + k) = x) ∧
        (∀ a, a < w.base + h.offset ∨ w.base + h.offset + h.wordCount ≤ a → t.word a = b.word a)))

/-- SIGNAL, CANCEL and REPLY. A SIGNAL on an accepted flag sets it with its releases and, with notify, adds it to the
signalled set; on a flag that is not accepted it has no effect and an addressed one is REFUSED-MASKED (R106, R107). A
CANCEL abandons the context it names, and is ACCEPTED either way (R123). A REPLY decides the exchange in AWAITING: REPLY
when it is good, matches and suits, that is, its code is one Table 3.6 lists for the request's kind and its count is the
READ's count for ACCEPTED and 0 otherwise, and BAD REPLY in any other case (R55, R66); any other exchange ignores it. -/
def Obligations.SignalCancelAndReply : Prop :=
  ∀ (s : State) (f : FrameEnd),
    let d := s.incoming f.words
    let h := d.header
    let b := s.afterHeader f.words
    let flag := h.selector
    let answer (t : State) (c : ReplyCode) : State :=
      { t with line := { t.line with reply := some { request := h, code := c, words := [], waited := 0 } } }
    let signalled : State := { b.setFlag flag with flags := { (b.setFlag flag).flags with
      signalled := if s.flags.notify.getLsbD flag.val then b.flags.signalled ||| BitVec.twoPow 32 flag.val
        else b.flags.signalled } }
    (s.reachesBlock f.words →
      (h.kind = some .signal →
        (s.flags.accept.getLsbD flag.val = true → h.all = true → exec (.frameDelivery f) s = .next signalled.fill) ∧
        (s.flags.accept.getLsbD flag.val = true → h.all = false →
          exec (.frameDelivery f) s = .next (answer signalled .accepted).fill) ∧
        (s.flags.accept.getLsbD flag.val = false → h.all = true → exec (.frameDelivery f) s = .next b.fill) ∧
        (s.flags.accept.getLsbD flag.val = false → h.all = false →
          exec (.frameDelivery f) s = .next (answer b .refusedMasked).fill)) ∧
      (h.kind = some .cancel →
        let named (c : Context) := c.source = h.source ∧ c.lane = h.sourceLane ∧ c.message = h.message ∧ c.port = h.port
        ((∀ (i : Fin 12) c, b.recv.contexts[i] = some c → ¬named c) →
          exec (.frameDelivery f) s = .next (answer b .accepted).fill) ∧
        (∀ (i : Fin 12) c, b.recv.contexts[i] = some c → named c →
          (∀ (j : Fin 12) e, b.recv.contexts[j] = some e → named e → i ≤ j) →
          exec (.frameDelivery f) s = .next (answer { b with recv := { b.recv with
            contexts := b.recv.contexts.set i none
            ports := b.recv.ports.set c.port { b.recv.ports[c.port] with
              completions := b.recv.ports[c.port].completions ++
                [{ buffer := c.buffer.address, status := .cancelled, length := c.stored, source := some c.source
                   message := some c.message }] } } } .accepted).fill))) ∧
    (s.delivers f.words → h.kind = some .reply → h.misplaced s.line.rxClass = false → h.isFor s.ctl.number = true →
      h.malformed s.ctl.count = false →
      (s.sched.exchange = none → exec (.frameDelivery f) s = .next b.fill) ∧
      (∀ x, s.sched.exchange = some x →
        let decided (o : ExchangeOutcome) : State :=
          { b with sched := { s.sched with exchange := some { x with phase := .decided, outcome := some o } } }
        let good (c : ReplyCode) :=
          h.replyCode = c.code ∧ d.payloadGood = true ∧ d.payload.length ≤ 16 ∧ h.replyCount = d.payload.length ∧
            (d.payload = [] ∨ c = .accepted)
        let matching := h.source = x.head.destination ∧ h.sourceLane = x.sourceLane ∧ flag = x.head.selector ∧
          h.h2 = x.head.h2
        let suits (c : ReplyCode) : Prop :=
          (match x.head.kind with
            | .data => c ∈ [ReplyCode.accepted, .busyNoBuffer, .busyNoContext, .busyPending, .refusedClosed,
                .refusedLength, .refusedStray, .checkError, .refusedMalformed]
            | .cancel => c ∈ [ReplyCode.accepted, .checkError, .refusedMalformed]
            | .read | .write => c ∈ [ReplyCode.accepted, .refusedWindow, .refusedBounds, .refusedDenied, .checkError,
                .refusedMalformed]
            | .signal => c ∈ [ReplyCode.accepted, .refusedMasked, .checkError, .refusedMalformed]
            | .announce | .beacon | .reply => False) ∧
          d.payload.length = if x.head.kind = .read ∧ c = .accepted then x.head.h3.toNat % 16 + 1 else 0
        (x.phase ≠ .awaiting → exec (.frameDelivery f) s = .next b.fill) ∧
        (∀ c, x.phase = .awaiting → good c → matching → suits c →
          exec (.frameDelivery f) s = .next (decided (.reply c d.payload)).fill) ∧
        (x.phase = .awaiting → (∀ c, good c → matching → ¬suits c) →
          exec (.frameDelivery f) s = .next (decided .badReply).fill)))

/-! ### Frames on the line -/

/-- What is sent is what is taken in. The transmitter drives every half-bit of its frame in order, then MARK in a jam, and
releases both wires otherwise (R5, R6); the frame lasts as many bit times as it has pairs of half-bits. The half-bits of a
frame followed by a released half-bit give its whole words (R1, R3, R4, R42); the words of a frame with up to 32 payload
words give its header, its payload and two good check results with class and frame end time (R4, R18, R47); and the header
a station builds reads back field by field with every spare bit 0 (R43, R62, R169). The bit order of the check word
(log 11) does not matter to this. That a delivery carries whole words, and that the state counts a frame in bit times, is
log 30. -/
def Obligations.FramesAreTakenInAsSent : Prop :=
  (∀ (x : LineInterface) (f : Transmission) (half : Fin 2), x.activity = .sending → x.tx = some f →
    (x.txTime < f.time →
      (frameHalfBits (frameWords f.header f.payload))[2 * x.txTime + half.val]? = some (x.drives half)) ∧
    (f.time ≤ x.txTime → x.drives half = .released)) ∧
  (∀ f : Transmission, (frameHalfBits (frameWords f.header f.payload)).length = 2 * f.time) ∧
  (∀ (x : LineInterface) (half : Fin 2),
    (x.activity = .sending → x.tx = none → x.drives half = .released) ∧
    (x.activity = .jamming → x.drives half = .mark) ∧
    (x.activity ≠ .sending → x.activity ≠ .jamming → x.drives half = .released) ∧
    x.lna half = (x.drives half == .mark || x.drives half == .contend) ∧
    x.lnb half = (x.drives half == .space || x.drives half == .contend)) ∧
  (∀ (ws : List Word) (rest : List Level), receive (frameHalfBits ws ++ .released :: rest) = some ws) ∧
  (∀ (k : FrameClass) (e : TimeBase) (h : Header) (payload : List Word), payload.length ≤ 32 →
    delivery k e (frameWords h payload) =
      { frameClass := k, frameEnd := e, header := h, headerGood := true, payload := payload, payloadGood := true }) ∧
  (∀ (f : FrameHead) (source : Fin 32) (lane : Fin 8) (epoch : BitVec 4),
    let h := Header.build f source lane epoch
    h.kind = some f.kind ∧ h.source = source ∧ h.sourceLane = lane ∧ h.epoch = epoch ∧
      h.destination = f.destination ∧ h.all = f.all ∧ h.selector = f.selector ∧ h.h2 = f.h2 ∧ h.h3 = f.h3 ∧
      field h.h1 5 5 = 0) ∧
  (∀ (m : BitVec 8) (i n : Nat) (h : Header), i < 64 → 1 ≤ n → n ≤ 2048 → h.h2 = segmentWord m i →
    h.h3 = lengthWord n → h.message = m ∧ h.index = i ∧ h.messageLength = n) ∧
  (∀ (n : Nat) (h : Header), 1 ≤ n → n ≤ 16 → h.h3 = countWord n → h.wordCount = n) ∧
  (∀ (c : ReplyCode) (n : Nat) (h : Header), n ≤ 16 → h.h3 = replyWord c n → h.replyCode = c.code ∧ h.replyCount = n)

/-! ### Rules of the whole part -/

/-- Participation and sync change only as Tables 2.3 and 2.4 list, each change with its reason (R23, R29); no passing of
time changes either. -/
def Obligations.ParticipationChangesAsListed : Prop :=
  ∀ s t : State, step s = .next t →
    (s.pending = [] → t.ctl.participation = s.ctl.participation ∧ t.ctl.sync = s.ctl.sync) ∧
    (∀ c rest, s.pending = c :: rest → c ≠ .powerOnReset → c ≠ .pinReset →
      let before := s.ctl.participation
      let after := t.ctl.participation
      let reason := t.ctl.reason
      (before ≠ after →
        before = .offline ∧ after = .active ∧ c = .join ∧ reason = .join ∨
        before = .active ∧ after = .leaving ∧ c = .leave ∧ reason = .leave ∨
        before = .active ∧ after = .offline ∧ c = .leave ∧ reason = .drained ∨
        before = .leaving ∧ after = .offline ∧ (c = .exchangeEnd ∨ c = .laneWordAccess ∨ c = .drainComplete) ∧
          reason = .drained ∨
        (before = .leaving ∨ before = .faulted) ∧ after = .offline ∧ c = .leave ∧ reason = .forced ∨
        (before = .active ∨ before = .leaving) ∧ after = .faulted ∧ c = .readBackMismatch ∧ reason = .duplicateStation ∨
        (before = .active ∨ before = .leaving) ∧ after = .faulted ∧ (∃ f, c = .frameDelivery f) ∧
          reason = .lineUnusable) ∧
      (before = after → s.ctl.sync = .unsynced → t.ctl.sync = .synced →
        (∃ f, c = .frameDelivery f) ∧ reason = .heard ∨
        (c = .lineDisturbance ∨ c = .readBackMismatch) ∧ reason = .collision ∨
        c = .silenceTimerExpiry ∧ reason = .silence) ∧
      (before = after → s.ctl.sync = .synced → t.ctl.sync = .unsynced →
        (∃ f, c = .frameDelivery f) ∧ reason = .header ∨ c = .stuckCondition ∧ reason = .stuck))

/-- Which commands may change which state, for every command but the two resets: straps, epoch, the time base, flags and
masks, window definitions, open ports, interrupt enables, the slot, COMMAND DONE, the high-word latch. Only the take of a command
writes the slot's result, sets COMMAND DONE and gives the slot back to the HOST (R157, R166). A host claim that waits acts at the word access that
serves it (R159). That no command touches the queue of waiting commands is the model's form (log 1). -/
def Obligations.OnlyTheNamedCommandsChange : Prop :=
  ∀ (s t : State) (c : Instr), exec c s = .next t → c ≠ .powerOnReset → c ≠ .pinReset →
    let serves := c == .laneWordAccess && !s.host.claims.isEmpty
    t.pending = s.pending ∧
    ((∀ a b d, c ≠ .resetRelease a b d) → t.resetHeld = s.resetHeld ∧ t.time = s.time ∧
      t.ctl.number = s.ctl.number ∧ t.ctl.count = s.ctl.count ∧ t.ctl.rate = s.ctl.rate) ∧
    (c ≠ .join → t.ctl.epoch = s.ctl.epoch) ∧
    (c ≠ .setSignalMasks → t.flags.accept = s.flags.accept ∧ t.flags.notify = s.flags.notify) ∧
    (c ≠ .setFlags → c ≠ .clearFlags → (∀ i, c ≠ .waitRequestTake i) → (∀ i, c ≠ .flagRequestTake i) →
      (∀ f, c ≠ .frameDelivery f) → t.flags.flags = s.flags.flags) ∧
    (c ≠ .loadWindow → c ≠ .clearWindow → ∀ w : Fin 8,
      t.windows[w] = { s.windows[w] with
        updates := t.windows[w].updates, lastWriter := t.windows[w].lastWriter, pending := t.windows[w].pending }) ∧
    (c ≠ .openPort → c ≠ .closePort → ∀ p : Fin 16, t.recv.ports[p].isOpen = s.recv.ports[p].isOpen) ∧
    (serves = false → (∀ v, c ≠ .writeInterruptEnables v) → (∀ v, c ≠ .controlPageWrite 3 v) →
      (∀ a v, c ≠ .hostMemoryWrite a (.write v)) →
      t.host.enableEvent = s.host.enableEvent ∧ t.host.enableLineFault = s.host.enableLineFault ∧
        t.host.enableCommandDone = s.host.enableCommandDone) ∧
    (serves = false → (∀ p v, c ≠ .controlPageWrite p v) → (∀ a v, c ≠ .hostMemoryWrite a (.write v)) →
      t.host.params = s.host.params) ∧
    (serves = false → (∀ p v, c ≠ .controlPageWrite p v) → (∀ v, c ≠ .commandWordWrite v) →
      (∀ a v, c ≠ .hostMemoryWrite a (.write v)) →
      t.host.code = s.host.code ∧ (s.host.owner = .host → t.host.owner = .host)) ∧
    (c ∉ [Instr.join, .leave, .startLane, .stopLane, .openPort, .closePort, .postReceive, .loadWindow, .clearWindow,
        .setFlags, .clearFlags, .setSignalMasks, .unknownCommand] →
      t.host.result = s.host.result ∧ (s.host.owner = .station → t.host.owner = .station) ∧
        (s.host.commandDone = false → t.host.commandDone = false)) ∧
    (serves = false → (∀ v, c ≠ .writeCauses v) → (∀ v, c ≠ .controlPageWrite 4 v) →
      (∀ a v, c ≠ .hostMemoryWrite a (.write v)) → s.host.commandDone = true → t.host.commandDone = true) ∧
    (serves = false → c ≠ .timeBaseLowRead → (∀ a, c ≠ .hostMemoryWrite a .read) → t.host.latch = s.host.latch)

/-- Who may change a word of buffer memory (R134, R158, R160): a host write changes the word it names, a word access the
word of the claim served, a take in progress the words it has still to store, where it is completed before another event
at its block (log 27), and a frame from the line only words of a buffer of an open port (R119) or of the enabled window
entry it names, which allows the peer to write (R133). A power-on reset leaves all of it undefined (R168, log 3). -/
def Obligations.MemoryIsChangedOnlyByItsOwners : Prop :=
  ∀ (s t : State) (c : Instr) (a : Nat), exec c s = .next t → t.word a ≠ s.word a →
    c = .powerOnReset ∨
    (∃ (h : BitVec 15) (v : Word), c = .hostMemoryWrite h (.write v) ∧ h.toNat = a ∧ a < 16384) ∨
    (c = .laneWordAccess ∧
      ((∃ k, s.mem.take = some k ∧ k.claimed = true ∧ k.address = a ∧ s.takeStores a) ∨
        (s.mem.lineClaims = false ∧ ∃ h v rest, s.host.claims = .write h v :: rest ∧ h.toNat = a ∧ a < 16384) ∨
        ∃ i, s.nextClaim = some i ∧ s.laneStoreAddress i = some a)) ∨
    (s.takeStores a ∧ c.completesTake = true) ∨
    (∃ f, c = .frameDelivery f ∧ s.delivers f.words ∧
      let h := (s.incoming f.words).header
      (h.kind = some .write ∧
        (let w := s.windows[h.window];
          w.enabled = true ∧ w.writeAllowed = true ∧ w.peers.getLsbD h.source.val = true ∧
            w.base + h.offset ≤ a ∧ a < w.base + w.length) ∨
        h.kind = some .data ∧ (s.receiveConsistent → ∃ (p : Fin 16) (b : Buffer), s.recv.ports[p].isOpen = true ∧
          (b ∈ s.recv.ports[p].posted ∨ ∃ (i : Fin 12) (x : Context), s.recv.contexts[i] = some x ∧ x.port = p ∧
            x.buffer = b) ∧
          b.address ≤ a ∧ a < b.address + b.capacity)))

/-- Every step keeps each of these: buffer memory in its canonical form (log 14), at most 64 entries in the queue (R149),
at most 8 buffers to a port (R110), where a segment store in progress fits the receive unit (part of `receiveConsistent`,
which every step keeps by `EveryStepKeepsAccessesInside`), no sync, timers, marks, reply, take or contexts off the line
(R27, R28, R126), and no waiting lane on the list of a set flag (R98). -/
def Obligations.EveryStepKeepsTheBounds : Prop :=
  ∀ s t : State, step s = .next t →
    (s.memoryCanonical → t.memoryCanonical) ∧ (s.queueBounded → t.queueBounded) ∧
    (s.takeFits → s.portsBounded → t.portsBounded) ∧ (s.quietOffLine → t.quietOffLine) ∧
    (s.setFlagsUnwaited → t.setFlagsUnwaited)

/-- Every step keeps the lanes in their places (R62, R92, R98), and from a state whose accesses are inside buffer memory
(R78, R111, R131, R133) every step answers a next state of the same kind: no run from such a state faults. -/
def Obligations.EveryStepKeepsAccessesInside : Prop :=
  (∀ s t : State, step s = .next t → (s.lanesPlaced → t.lanesPlaced) ∧ (s.windowsInside → t.windowsInside) ∧
    (s.receiveConsistent → t.receiveConsistent)) ∧
  ∀ s : State, s.accessesInside → ∃ t, step s = .next t ∧ t.accessesInside

/-- The state at reset meets every invariant that the steps keep. -/
def Obligations.ResetMeetsTheInvariants : Prop :=
  State.reset.memoryCanonical ∧ State.reset.queueBounded ∧ State.reset.portsBounded ∧ State.reset.quietOffLine ∧
    State.reset.setFlagsUnwaited ∧ State.reset.accessesInside
end

