-- ==== Sys2Proof/Laws/State.lean ====
section
/-! SUPPORT. What each update of the state does to each field, so that no proof unfolds an update. -/

namespace Sys2Proof.Machine

/-! ### Lanes -/

@[simp] theorem State.setLane_resetHeld (s : State) (i : Fin 8) (x : Lane) : (s.setLane i x).resetHeld = s.resetHeld := rfl
@[simp] theorem State.setLane_line (s : State) (i : Fin 8) (x : Lane) : (s.setLane i x).line = s.line := rfl
@[simp] theorem State.setLane_ctl (s : State) (i : Fin 8) (x : Lane) : (s.setLane i x).ctl = s.ctl := rfl
@[simp] theorem State.setLane_sched (s : State) (i : Fin 8) (x : Lane) : (s.setLane i x).sched = s.sched := rfl
@[simp] theorem State.setLane_flags (s : State) (i : Fin 8) (x : Lane) : (s.setLane i x).flags = s.flags := rfl
@[simp] theorem State.setLane_recv (s : State) (i : Fin 8) (x : Lane) : (s.setLane i x).recv = s.recv := rfl
@[simp] theorem State.setLane_windows (s : State) (i : Fin 8) (x : Lane) : (s.setLane i x).windows = s.windows := rfl
@[simp] theorem State.setLane_presence (s : State) (i : Fin 8) (x : Lane) : (s.setLane i x).presence = s.presence := rfl
@[simp] theorem State.setLane_queue (s : State) (i : Fin 8) (x : Lane) : (s.setLane i x).queue = s.queue := rfl
@[simp] theorem State.setLane_host (s : State) (i : Fin 8) (x : Lane) : (s.setLane i x).host = s.host := rfl
@[simp] theorem State.setLane_mem (s : State) (i : Fin 8) (x : Lane) : (s.setLane i x).mem = s.mem := rfl
@[simp] theorem State.setLane_time (s : State) (i : Fin 8) (x : Lane) : (s.setLane i x).time = s.time := rfl
@[simp] theorem State.setLane_pending (s : State) (i : Fin 8) (x : Lane) : (s.setLane i x).pending = s.pending := rfl

@[simp] theorem State.setLane_lanes (s : State) (i : Fin 8) (x : Lane) :
    (s.setLane i x).lanes = s.lanes.set i x := rfl

@[simp] theorem State.updateLane_resetHeld (s : State) (i : Fin 8) (f : Lane → Lane) : (s.updateLane i f).resetHeld = s.resetHeld := rfl
@[simp] theorem State.updateLane_line (s : State) (i : Fin 8) (f : Lane → Lane) : (s.updateLane i f).line = s.line := rfl
@[simp] theorem State.updateLane_ctl (s : State) (i : Fin 8) (f : Lane → Lane) : (s.updateLane i f).ctl = s.ctl := rfl
@[simp] theorem State.updateLane_sched (s : State) (i : Fin 8) (f : Lane → Lane) : (s.updateLane i f).sched = s.sched := rfl
@[simp] theorem State.updateLane_flags (s : State) (i : Fin 8) (f : Lane → Lane) : (s.updateLane i f).flags = s.flags := rfl
@[simp] theorem State.updateLane_recv (s : State) (i : Fin 8) (f : Lane → Lane) : (s.updateLane i f).recv = s.recv := rfl
@[simp] theorem State.updateLane_windows (s : State) (i : Fin 8) (f : Lane → Lane) : (s.updateLane i f).windows = s.windows := rfl
@[simp] theorem State.updateLane_presence (s : State) (i : Fin 8) (f : Lane → Lane) : (s.updateLane i f).presence = s.presence := rfl
@[simp] theorem State.updateLane_queue (s : State) (i : Fin 8) (f : Lane → Lane) : (s.updateLane i f).queue = s.queue := rfl
@[simp] theorem State.updateLane_host (s : State) (i : Fin 8) (f : Lane → Lane) : (s.updateLane i f).host = s.host := rfl
@[simp] theorem State.updateLane_mem (s : State) (i : Fin 8) (f : Lane → Lane) : (s.updateLane i f).mem = s.mem := rfl
@[simp] theorem State.updateLane_time (s : State) (i : Fin 8) (f : Lane → Lane) : (s.updateLane i f).time = s.time := rfl
@[simp] theorem State.updateLane_pending (s : State) (i : Fin 8) (f : Lane → Lane) : (s.updateLane i f).pending = s.pending := rfl

@[simp] theorem State.updateLane_lanes (s : State) (i : Fin 8) (f : Lane → Lane) :
    (s.updateLane i f).lanes = s.lanes.set i (f s.lanes[i]) := rfl

@[simp] theorem State.mapLanes_resetHeld (s : State) (f : Fin 8 → Lane → Lane) : (s.mapLanes f).resetHeld = s.resetHeld := rfl
@[simp] theorem State.mapLanes_line (s : State) (f : Fin 8 → Lane → Lane) : (s.mapLanes f).line = s.line := rfl
@[simp] theorem State.mapLanes_ctl (s : State) (f : Fin 8 → Lane → Lane) : (s.mapLanes f).ctl = s.ctl := rfl
@[simp] theorem State.mapLanes_sched (s : State) (f : Fin 8 → Lane → Lane) : (s.mapLanes f).sched = s.sched := rfl
@[simp] theorem State.mapLanes_flags (s : State) (f : Fin 8 → Lane → Lane) : (s.mapLanes f).flags = s.flags := rfl
@[simp] theorem State.mapLanes_recv (s : State) (f : Fin 8 → Lane → Lane) : (s.mapLanes f).recv = s.recv := rfl
@[simp] theorem State.mapLanes_windows (s : State) (f : Fin 8 → Lane → Lane) : (s.mapLanes f).windows = s.windows := rfl
@[simp] theorem State.mapLanes_presence (s : State) (f : Fin 8 → Lane → Lane) : (s.mapLanes f).presence = s.presence := rfl
@[simp] theorem State.mapLanes_queue (s : State) (f : Fin 8 → Lane → Lane) : (s.mapLanes f).queue = s.queue := rfl
@[simp] theorem State.mapLanes_host (s : State) (f : Fin 8 → Lane → Lane) : (s.mapLanes f).host = s.host := rfl
@[simp] theorem State.mapLanes_mem (s : State) (f : Fin 8 → Lane → Lane) : (s.mapLanes f).mem = s.mem := rfl
@[simp] theorem State.mapLanes_time (s : State) (f : Fin 8 → Lane → Lane) : (s.mapLanes f).time = s.time := rfl
@[simp] theorem State.mapLanes_pending (s : State) (f : Fin 8 → Lane → Lane) : (s.mapLanes f).pending = s.pending := rfl

theorem State.lanes_mapLanes_get (s : State) (f : Fin 8 → Lane → Lane) (i : Fin 8) :
    (s.mapLanes f).lanes[i] = f i s.lanes[i] := by simp [State.mapLanes]

theorem State.lanes_setLane_get (s : State) (i j : Fin 8) (x : Lane) :
    (s.setLane i x).lanes[j] = if j = i then x else s.lanes[j] := by
  simp [State.setLane, Vector.getElem_set, Fin.ext_iff, eq_comm]

theorem State.lanes_updateLane_get (s : State) (i j : Fin 8) (f : Lane → Lane) :
    (s.updateLane i f).lanes[j] = if j = i then f s.lanes[i] else s.lanes[j] := s.lanes_setLane_get i j _

/-! ### Windows -/

@[simp] theorem State.updateWindow_resetHeld (s : State) (w : Fin 8) (f : Window → Window) : (s.updateWindow w f).resetHeld = s.resetHeld := rfl
@[simp] theorem State.updateWindow_line (s : State) (w : Fin 8) (f : Window → Window) : (s.updateWindow w f).line = s.line := rfl
@[simp] theorem State.updateWindow_ctl (s : State) (w : Fin 8) (f : Window → Window) : (s.updateWindow w f).ctl = s.ctl := rfl
@[simp] theorem State.updateWindow_sched (s : State) (w : Fin 8) (f : Window → Window) : (s.updateWindow w f).sched = s.sched := rfl
@[simp] theorem State.updateWindow_lanes (s : State) (w : Fin 8) (f : Window → Window) : (s.updateWindow w f).lanes = s.lanes := rfl
@[simp] theorem State.updateWindow_flags (s : State) (w : Fin 8) (f : Window → Window) : (s.updateWindow w f).flags = s.flags := rfl
@[simp] theorem State.updateWindow_recv (s : State) (w : Fin 8) (f : Window → Window) : (s.updateWindow w f).recv = s.recv := rfl
@[simp] theorem State.updateWindow_presence (s : State) (w : Fin 8) (f : Window → Window) : (s.updateWindow w f).presence = s.presence := rfl
@[simp] theorem State.updateWindow_queue (s : State) (w : Fin 8) (f : Window → Window) : (s.updateWindow w f).queue = s.queue := rfl
@[simp] theorem State.updateWindow_host (s : State) (w : Fin 8) (f : Window → Window) : (s.updateWindow w f).host = s.host := rfl
@[simp] theorem State.updateWindow_mem (s : State) (w : Fin 8) (f : Window → Window) : (s.updateWindow w f).mem = s.mem := rfl
@[simp] theorem State.updateWindow_time (s : State) (w : Fin 8) (f : Window → Window) : (s.updateWindow w f).time = s.time := rfl
@[simp] theorem State.updateWindow_pending (s : State) (w : Fin 8) (f : Window → Window) : (s.updateWindow w f).pending = s.pending := rfl

theorem State.windows_updateWindow_get (s : State) (w v : Fin 8) (f : Window → Window) :
    (s.updateWindow w f).windows[v] = if v = w then f s.windows[w] else s.windows[v] := by
  simp [State.updateWindow, Vector.getElem_set, Fin.ext_iff, eq_comm]

/-! ### The event queue -/

@[simp] theorem State.enqueue_resetHeld (s : State) (pos : Fin 35) (e : Event) : (s.enqueue pos e).resetHeld = s.resetHeld := rfl
@[simp] theorem State.enqueue_line (s : State) (pos : Fin 35) (e : Event) : (s.enqueue pos e).line = s.line := rfl
@[simp] theorem State.enqueue_ctl (s : State) (pos : Fin 35) (e : Event) : (s.enqueue pos e).ctl = s.ctl := rfl
@[simp] theorem State.enqueue_sched (s : State) (pos : Fin 35) (e : Event) : (s.enqueue pos e).sched = s.sched := rfl
@[simp] theorem State.enqueue_lanes (s : State) (pos : Fin 35) (e : Event) : (s.enqueue pos e).lanes = s.lanes := rfl
@[simp] theorem State.enqueue_flags (s : State) (pos : Fin 35) (e : Event) : (s.enqueue pos e).flags = s.flags := rfl
@[simp] theorem State.enqueue_recv (s : State) (pos : Fin 35) (e : Event) : (s.enqueue pos e).recv = s.recv := rfl
@[simp] theorem State.enqueue_windows (s : State) (pos : Fin 35) (e : Event) : (s.enqueue pos e).windows = s.windows := rfl
@[simp] theorem State.enqueue_presence (s : State) (pos : Fin 35) (e : Event) : (s.enqueue pos e).presence = s.presence := rfl
@[simp] theorem State.enqueue_host (s : State) (pos : Fin 35) (e : Event) : (s.enqueue pos e).host = s.host := rfl
@[simp] theorem State.enqueue_mem (s : State) (pos : Fin 35) (e : Event) : (s.enqueue pos e).mem = s.mem := rfl
@[simp] theorem State.enqueue_time (s : State) (pos : Fin 35) (e : Event) : (s.enqueue pos e).time = s.time := rfl
@[simp] theorem State.enqueue_pending (s : State) (pos : Fin 35) (e : Event) : (s.enqueue pos e).pending = s.pending := rfl

/-! ### Replies -/

@[simp] theorem State.answer_resetHeld (s : State) (h : Header) (c : ReplyCode) (ws : List Word) : (s.answer h c ws).resetHeld = s.resetHeld := rfl
@[simp] theorem State.answer_ctl (s : State) (h : Header) (c : ReplyCode) (ws : List Word) : (s.answer h c ws).ctl = s.ctl := rfl
@[simp] theorem State.answer_sched (s : State) (h : Header) (c : ReplyCode) (ws : List Word) : (s.answer h c ws).sched = s.sched := rfl
@[simp] theorem State.answer_lanes (s : State) (h : Header) (c : ReplyCode) (ws : List Word) : (s.answer h c ws).lanes = s.lanes := rfl
@[simp] theorem State.answer_flags (s : State) (h : Header) (c : ReplyCode) (ws : List Word) : (s.answer h c ws).flags = s.flags := rfl
@[simp] theorem State.answer_recv (s : State) (h : Header) (c : ReplyCode) (ws : List Word) : (s.answer h c ws).recv = s.recv := rfl
@[simp] theorem State.answer_windows (s : State) (h : Header) (c : ReplyCode) (ws : List Word) : (s.answer h c ws).windows = s.windows := rfl
@[simp] theorem State.answer_presence (s : State) (h : Header) (c : ReplyCode) (ws : List Word) : (s.answer h c ws).presence = s.presence := rfl
@[simp] theorem State.answer_queue (s : State) (h : Header) (c : ReplyCode) (ws : List Word) : (s.answer h c ws).queue = s.queue := rfl
@[simp] theorem State.answer_host (s : State) (h : Header) (c : ReplyCode) (ws : List Word) : (s.answer h c ws).host = s.host := rfl
@[simp] theorem State.answer_mem (s : State) (h : Header) (c : ReplyCode) (ws : List Word) : (s.answer h c ws).mem = s.mem := rfl
@[simp] theorem State.answer_time (s : State) (h : Header) (c : ReplyCode) (ws : List Word) : (s.answer h c ws).time = s.time := rfl
@[simp] theorem State.answer_pending (s : State) (h : Header) (c : ReplyCode) (ws : List Word) : (s.answer h c ws).pending = s.pending := rfl

/-! ### Flags -/

@[simp] theorem State.clearFlag_resetHeld (s : State) (f : Fin 32) : (s.clearFlag f).resetHeld = s.resetHeld := rfl
@[simp] theorem State.clearFlag_line (s : State) (f : Fin 32) : (s.clearFlag f).line = s.line := rfl
@[simp] theorem State.clearFlag_ctl (s : State) (f : Fin 32) : (s.clearFlag f).ctl = s.ctl := rfl
@[simp] theorem State.clearFlag_sched (s : State) (f : Fin 32) : (s.clearFlag f).sched = s.sched := rfl
@[simp] theorem State.clearFlag_lanes (s : State) (f : Fin 32) : (s.clearFlag f).lanes = s.lanes := rfl
@[simp] theorem State.clearFlag_recv (s : State) (f : Fin 32) : (s.clearFlag f).recv = s.recv := rfl
@[simp] theorem State.clearFlag_windows (s : State) (f : Fin 32) : (s.clearFlag f).windows = s.windows := rfl
@[simp] theorem State.clearFlag_presence (s : State) (f : Fin 32) : (s.clearFlag f).presence = s.presence := rfl
@[simp] theorem State.clearFlag_queue (s : State) (f : Fin 32) : (s.clearFlag f).queue = s.queue := rfl
@[simp] theorem State.clearFlag_host (s : State) (f : Fin 32) : (s.clearFlag f).host = s.host := rfl
@[simp] theorem State.clearFlag_mem (s : State) (f : Fin 32) : (s.clearFlag f).mem = s.mem := rfl
@[simp] theorem State.clearFlag_time (s : State) (f : Fin 32) : (s.clearFlag f).time = s.time := rfl
@[simp] theorem State.clearFlag_pending (s : State) (f : Fin 32) : (s.clearFlag f).pending = s.pending := rfl

@[simp] theorem State.leaveList_resetHeld (s : State) (i : Fin 8) (st : Status) : (s.leaveList i st).resetHeld = s.resetHeld := rfl
@[simp] theorem State.leaveList_line (s : State) (i : Fin 8) (st : Status) : (s.leaveList i st).line = s.line := rfl
@[simp] theorem State.leaveList_ctl (s : State) (i : Fin 8) (st : Status) : (s.leaveList i st).ctl = s.ctl := rfl
@[simp] theorem State.leaveList_sched (s : State) (i : Fin 8) (st : Status) : (s.leaveList i st).sched = s.sched := rfl
@[simp] theorem State.leaveList_recv (s : State) (i : Fin 8) (st : Status) : (s.leaveList i st).recv = s.recv := rfl
@[simp] theorem State.leaveList_windows (s : State) (i : Fin 8) (st : Status) : (s.leaveList i st).windows = s.windows := rfl
@[simp] theorem State.leaveList_presence (s : State) (i : Fin 8) (st : Status) : (s.leaveList i st).presence = s.presence := rfl
@[simp] theorem State.leaveList_queue (s : State) (i : Fin 8) (st : Status) : (s.leaveList i st).queue = s.queue := rfl
@[simp] theorem State.leaveList_host (s : State) (i : Fin 8) (st : Status) : (s.leaveList i st).host = s.host := rfl
@[simp] theorem State.leaveList_mem (s : State) (i : Fin 8) (st : Status) : (s.leaveList i st).mem = s.mem := rfl
@[simp] theorem State.leaveList_time (s : State) (i : Fin 8) (st : Status) : (s.leaveList i st).time = s.time := rfl
@[simp] theorem State.leaveList_pending (s : State) (i : Fin 8) (st : Status) : (s.leaveList i st).pending = s.pending := rfl

/-! ### Takes -/

@[simp] theorem State.takeEnds_resetHeld (s : State) (k : LineWork) : (s.takeEnds k).resetHeld = s.resetHeld := rfl
@[simp] theorem State.takeEnds_ctl (s : State) (k : LineWork) : (s.takeEnds k).ctl = s.ctl := rfl
@[simp] theorem State.takeEnds_sched (s : State) (k : LineWork) : (s.takeEnds k).sched = s.sched := rfl
@[simp] theorem State.takeEnds_lanes (s : State) (k : LineWork) : (s.takeEnds k).lanes = s.lanes := rfl
@[simp] theorem State.takeEnds_flags (s : State) (k : LineWork) : (s.takeEnds k).flags = s.flags := rfl
@[simp] theorem State.takeEnds_presence (s : State) (k : LineWork) : (s.takeEnds k).presence = s.presence := rfl
@[simp] theorem State.takeEnds_queue (s : State) (k : LineWork) : (s.takeEnds k).queue = s.queue := rfl
@[simp] theorem State.takeEnds_host (s : State) (k : LineWork) : (s.takeEnds k).host = s.host := rfl
@[simp] theorem State.takeEnds_mem (s : State) (k : LineWork) : (s.takeEnds k).mem = s.mem := rfl
@[simp] theorem State.takeEnds_time (s : State) (k : LineWork) : (s.takeEnds k).time = s.time := rfl
@[simp] theorem State.takeEnds_pending (s : State) (k : LineWork) : (s.takeEnds k).pending = s.pending := rfl

@[simp] theorem State.finishTake_resetHeld (s : State) : (s.finishTake).resetHeld = s.resetHeld := rfl
@[simp] theorem State.finishTake_ctl (s : State) : (s.finishTake).ctl = s.ctl := rfl
@[simp] theorem State.finishTake_sched (s : State) : (s.finishTake).sched = s.sched := rfl
@[simp] theorem State.finishTake_lanes (s : State) : (s.finishTake).lanes = s.lanes := rfl
@[simp] theorem State.finishTake_flags (s : State) : (s.finishTake).flags = s.flags := rfl
@[simp] theorem State.finishTake_presence (s : State) : (s.finishTake).presence = s.presence := rfl
@[simp] theorem State.finishTake_queue (s : State) : (s.finishTake).queue = s.queue := rfl
@[simp] theorem State.finishTake_host (s : State) : (s.finishTake).host = s.host := rfl
@[simp] theorem State.finishTake_time (s : State) : (s.finishTake).time = s.time := rfl
@[simp] theorem State.finishTake_pending (s : State) : (s.finishTake).pending = s.pending := rfl

/-! ### Leaving the line -/

@[simp] theorem State.leaveLine_resetHeld (s : State) (p : Participation) (r : Reason) : (s.leaveLine p r).resetHeld = s.resetHeld := rfl
@[simp] theorem State.leaveLine_flags (s : State) (p : Participation) (r : Reason) : (s.leaveLine p r).flags = s.flags := rfl
@[simp] theorem State.leaveLine_recv (s : State) (p : Participation) (r : Reason) : (s.leaveLine p r).recv = s.recv := rfl
@[simp] theorem State.leaveLine_windows (s : State) (p : Participation) (r : Reason) : (s.leaveLine p r).windows = s.windows := rfl
@[simp] theorem State.leaveLine_presence (s : State) (p : Participation) (r : Reason) : (s.leaveLine p r).presence = s.presence := rfl
@[simp] theorem State.leaveLine_queue (s : State) (p : Participation) (r : Reason) : (s.leaveLine p r).queue = s.queue := rfl
@[simp] theorem State.leaveLine_host (s : State) (p : Participation) (r : Reason) : (s.leaveLine p r).host = s.host := rfl
@[simp] theorem State.leaveLine_mem (s : State) (p : Participation) (r : Reason) : (s.leaveLine p r).mem = s.mem := rfl
@[simp] theorem State.leaveLine_time (s : State) (p : Participation) (r : Reason) : (s.leaveLine p r).time = s.time := rfl
@[simp] theorem State.leaveLine_pending (s : State) (p : Participation) (r : Reason) : (s.leaveLine p r).pending = s.pending := rfl

/-! ### The receive unit -/

theorem ReceiveUnit.ports_updatePort_get (r : ReceiveUnit) (p q : Fin 16) (f : Port → Port) :
    (r.updatePort p f).ports[q] = if q = p then f r.ports[p] else r.ports[q] := by
  simp [ReceiveUnit.updatePort, Vector.getElem_set, Fin.ext_iff, eq_comm]

@[simp] theorem ReceiveUnit.updatePort_contexts (r : ReceiveUnit) (p : Fin 16) (f : Port → Port) :
    (r.updatePort p f).contexts = r.contexts := rfl
@[simp] theorem ReceiveUnit.updatePort_streams (r : ReceiveUnit) (p : Fin 16) (f : Port → Port) :
    (r.updatePort p f).streams = r.streams := rfl

theorem ReceiveUnit.contexts_setContext_get (r : ReceiveUnit) (i j : Fin 12) (c : Option Context) :
    (r.setContext i c).contexts[j] = if j = i then c else r.contexts[j] := by
  simp [ReceiveUnit.setContext, Vector.getElem_set, Fin.ext_iff, eq_comm]

@[simp] theorem ReceiveUnit.setContext_ports (r : ReceiveUnit) (i : Fin 12) (c : Option Context) :
    (r.setContext i c).ports = r.ports := rfl
@[simp] theorem ReceiveUnit.setContext_streams (r : ReceiveUnit) (i : Fin 12) (c : Option Context) :
    (r.setContext i c).streams = r.streams := rfl

@[simp] theorem ReceiveUnit.complete_contexts (r : ReceiveUnit) (p : Fin 16) (c : Completion) :
    (r.complete p c).contexts = r.contexts := rfl
@[simp] theorem ReceiveUnit.complete_streams (r : ReceiveUnit) (p : Fin 16) (c : Completion) :
    (r.complete p c).streams = r.streams := rfl

theorem ReceiveUnit.ports_complete_get (r : ReceiveUnit) (p q : Fin 16) (c : Completion) :
    (r.complete p c).ports[q] =
      if q = p then { r.ports[p] with completions := r.ports[p].completions ++ [c] } else r.ports[q] :=
  r.ports_updatePort_get p q _

@[simp] theorem ReceiveUnit.setStream_ports (r : ReceiveUnit) (p : Fin 32) (l : Fin 8) (x : StreamRecord) :
    (r.setStream p l x).ports = r.ports := rfl
@[simp] theorem ReceiveUnit.setStream_contexts (r : ReceiveUnit) (p : Fin 32) (l : Fin 8) (x : StreamRecord) :
    (r.setStream p l x).contexts = r.contexts := rfl

theorem ReceiveUnit.stream_setStream (r : ReceiveUnit) (p q : Fin 32) (l m : Fin 8) (x : StreamRecord) :
    (r.setStream p l x).stream q m = if q = p ∧ m = l then some x else r.stream q m := by
  simp only [ReceiveUnit.setStream, ReceiveUnit.stream, Fin.getElem_fin, Vector.getElem_set, Fin.ext_iff]
  by_cases hp : (p : Nat) = q
  · have : p = q := Fin.ext hp
    subst this
    by_cases hl : (l : Nat) = m
    · simp [hl]
    · simp [hl, Ne.symm hl]
  · simp [hp, Ne.symm hp]

@[simp] theorem ReceiveUnit.clearStreams_ports (r : ReceiveUnit) (p : Fin 32) : (r.clearStreams p).ports = r.ports := rfl
@[simp] theorem ReceiveUnit.clearStreams_contexts (r : ReceiveUnit) (p : Fin 32) :
    (r.clearStreams p).contexts = r.contexts := rfl

@[simp] theorem ReceiveUnit.clearStreams_bufferCount (r : ReceiveUnit) (p : Fin 32) (q : Fin 16) :
    (r.clearStreams p).bufferCount q = r.bufferCount q := rfl

theorem ReceiveUnit.stream_clearStreams (r : ReceiveUnit) (p q : Fin 32) (m : Fin 8) :
    (r.clearStreams p).stream q m = if q = p then none else r.stream q m := by
  simp only [ReceiveUnit.clearStreams, ReceiveUnit.stream, Fin.getElem_fin, Vector.getElem_set, Fin.ext_iff]
  by_cases hp : (p : Nat) = q
  · simp [hp]
  · simp [hp, Ne.symm hp]

end Sys2Proof.Machine
end

