-- ==== Sys2Proof/Laws/Memory.lean ====
section
/-! SUPPORT. Buffer memory: a read after a write, and the canonical form (log 14) kept by every operation. -/

namespace Sys2Proof.Machine

/-! ### Read after write -/

theorem readCell_insertCell (cells : List (Nat × Word)) (a b : Nat) (w : Word) (ha : ∀ c ∈ cells, c.1 ≠ a) :
    readCell (insertCell a w cells) b = if b = a then w else readCell cells b := by
  induction cells with
  | nil => simp [insertCell, readCell, eq_comm]
  | cons c rest ih =>
    obtain ⟨k, v⟩ := c
    have hk : k ≠ a := ha (k, v) (by simp)
    have hr := ih fun c hc => ha c (by simp [hc])
    simp only [insertCell]
    split
    · simp [readCell, eq_comm]
    · simp only [readCell, hr]
      split
      · rename_i hkb; rw [if_neg (by omega)]
      · rfl

theorem readCell_filter (cells : List (Nat × Word)) (a b : Nat) :
    readCell (cells.filter fun c => c.1 != a) b = if b = a then unlistedWord else readCell cells b := by
  induction cells with
  | nil => simp [readCell]
  | cons c rest ih =>
    obtain ⟨k, v⟩ := c
    by_cases hk : k = a
    · subst hk
      simp only [List.filter_cons, bne_self_eq_false, Bool.false_eq_true, if_false, ih, readCell]
      by_cases hb : b = k
      · simp [hb]
      · simp [hb, Ne.symm hb]
    · have : (k != a) = true := by simpa using hk
      simp only [List.filter_cons, this, if_true, readCell, ih]
      by_cases hb : k = b
      · rw [if_pos hb, if_pos hb, if_neg (by omega)]
      · rw [if_neg hb, if_neg hb]

/-- A word written reads back, and every other address reads as before. -/
theorem readCell_writeCell (cells : List (Nat × Word)) (a b : Nat) (w : Word) :
    readCell (writeCell a w cells) b = if b = a then w else readCell cells b := by
  simp only [writeCell]
  split
  · rename_i hw; rw [readCell_filter, hw]
  · rw [readCell_insertCell _ _ _ _ (by simp), readCell_filter]
    split <;> rfl

/-- Consecutive words written read back, and every other address reads as before. -/
theorem readCell_writeCells (cells : List (Nat × Word)) (a : Nat) (ws : List Word) (b : Nat) :
    readCell (writeCells cells a ws) b =
      if a ≤ b ∧ b < a + ws.length then ws.getD (b - a) 0 else readCell cells b := by
  induction ws generalizing cells a with
  | nil => simp only [writeCells, List.length_nil, Nat.add_zero]; rw [if_neg (by omega)]
  | cons w rest ih =>
    simp only [writeCells]
    rw [ih, readCell_writeCell]
    simp only [List.length_cons]
    by_cases h1 : b = a
    · subst h1
      rw [if_neg (by omega), if_pos rfl, if_pos (by omega)]
      simp
    · by_cases h2 : a + 1 ≤ b ∧ b < a + 1 + rest.length
      · rw [if_pos h2, if_pos (by omega)]
        obtain ⟨k, rfl⟩ : ∃ k, b = a + 1 + k := ⟨b - (a + 1), by omega⟩
        have e1 : a + 1 + k - (a + 1) = k := by omega
        have e2 : a + 1 + k - a = k + 1 := by omega
        rw [e1, e2]; simp
      · rw [if_neg h2, if_neg h1, if_neg (by omega)]

/-! ### The canonical form -/

/-- Addresses strictly rising. -/
def Rising (cells : List (Nat × Word)) : Prop := cells.Pairwise fun x y => x.1 < y.1

theorem mem_insertCell {cells : List (Nat × Word)} {a : Nat} {w : Word} {x : Nat × Word}
    (h : x ∈ insertCell a w cells) : x = (a, w) ∨ x ∈ cells := by
  induction cells with
  | nil => simpa [insertCell] using h
  | cons c rest ih =>
    obtain ⟨k, v⟩ := c
    simp only [insertCell] at h
    split at h
    · simpa using h
    · rcases List.mem_cons.mp h with rfl | h
      · exact .inr (by simp)
      · rcases ih h with h | h
        · exact .inl h
        · exact .inr (by simp [h])

theorem rising_insertCell {cells : List (Nat × Word)} (h : Rising cells) {a : Nat} (w : Word)
    (ha : ∀ c ∈ cells, c.1 ≠ a) : Rising (insertCell a w cells) := by
  induction cells with
  | nil => simp [Rising, insertCell]
  | cons c rest ih =>
    obtain ⟨k, v⟩ := c
    have hr : Rising rest := (List.pairwise_cons.mp h).2
    have hk : ∀ x ∈ rest, k < x.1 := fun x hx => (List.pairwise_cons.mp h).1 x hx
    have hka : k ≠ a := ha (k, v) (by simp)
    simp only [insertCell]
    split
    · refine List.pairwise_cons.mpr ⟨fun x hx => ?_, h⟩
      rcases List.mem_cons.mp hx with rfl | hx
      · assumption
      · have := hk x hx; simp only; omega
    · refine List.pairwise_cons.mpr ⟨fun x hx => ?_, ih hr fun c hc => ha c (by simp [hc])⟩
      rcases mem_insertCell hx with rfl | hx
      · simp only; omega
      · exact hk x hx

theorem rising_writeCell {cells : List (Nat × Word)} (h : Rising cells) (a : Nat) (w : Word) :
    Rising (writeCell a w cells) := by
  have hf : Rising (cells.filter fun c => c.1 != a) := List.Pairwise.filter _ h
  simp only [writeCell]
  split
  · exact hf
  · exact rising_insertCell hf w (by simp)

theorem mem_writeCell {cells : List (Nat × Word)} {a : Nat} {w : Word} {x : Nat × Word}
    (h : x ∈ writeCell a w cells) : x ∈ cells ∨ (x = (a, w) ∧ w ≠ unlistedWord) := by
  simp only [writeCell] at h
  split at h
  · exact .inl (List.mem_filter.mp h).1
  · rcases mem_insertCell h with h | h
    · exact .inr ⟨h, by assumption⟩
    · exact .inl (List.mem_filter.mp h).1

theorem BufferMemory.wf_iff (m : BufferMemory) :
    m.wf = true ↔ Rising m.cells ∧ (∀ c ∈ m.cells, c.1 < Config.memoryWords ∧ c.2 ≠ unlistedWord) ∧
      ∀ k, m.take = some k → k.address + k.work.remaining ≤ Config.memoryWords := by
  cases h : m.take <;> simp [BufferMemory.wf, Rising, LineTake.inside, h, and_assoc]

theorem wf_writeCell {m : BufferMemory} (h : m.wf = true) {a : Nat} (ha : a < Config.memoryWords) (w : Word) :
    ({ m with cells := writeCell a w m.cells } : BufferMemory).wf = true := by
  rw [BufferMemory.wf_iff] at *
  refine ⟨rising_writeCell h.1 a w, fun c hc => ?_, h.2.2⟩
  rcases mem_writeCell hc with hc | ⟨rfl, hw⟩
  · exact h.2.1 c hc
  · exact ⟨ha, hw⟩

theorem wf_writeCells {m : BufferMemory} (h : m.wf = true) {a : Nat} (ws : List Word)
    (ha : a + ws.length ≤ Config.memoryWords) :
    ({ m with cells := writeCells m.cells a ws } : BufferMemory).wf = true := by
  induction ws generalizing m a with
  | nil => exact h
  | cons w rest ih =>
    simp only [List.length_cons] at ha
    have h1 := wf_writeCell h (a := a) (by omega) w
    simpa [writeCells] using ih h1 (a := a + 1) (by omega)

theorem reset_memory_wf : State.reset.mem.wf = true := by decide

/-- An address below every listed one is unlisted. -/
theorem readCell_of_lt {cells : List (Nat × Word)} {a : Nat} (h : ∀ c ∈ cells, a < c.1) :
    readCell cells a = unlistedWord := by
  induction cells with
  | nil => rfl
  | cons c rest ih =>
    have hc := h c (by simp)
    simp only [readCell]
    rw [if_neg (by omega)]
    exact ih fun x hx => h x (by simp [hx])

/-! ### The accesses of the state -/

/-- Everything a store of one word can do (R158, R160). -/
theorem State.writeWord_ok {s t : State} {a : Nat} {w : Word} (h : s.writeWord a w = .ok t) :
    a < Config.memoryWords ∧ t = { s with mem := { s.mem with cells := writeCell a w s.mem.cells } } := by
  unfold State.writeWord at h
  split at h
  · simp at h; exact ⟨by assumption, h.symm⟩
  · simp at h

/-- Everything the beginning of a take can do (R119, R134, R135): nothing is accessed yet. -/
theorem State.beginTake_ok {s t : State} {a : Nat} {work : LineWork} (h : s.beginTake a work = .ok t) :
    a + work.remaining ≤ Config.memoryWords ∧
      t = { s with mem := { s.mem with take := some { address := a, work := work, claimed := false } } } := by
  unfold State.beginTake at h
  split at h
  · simp at h; exact ⟨by assumption, h.symm⟩
  · simp at h

/-- The beginning of a take inside buffer memory succeeds. -/
theorem State.beginTake_eq {s : State} {a : Nat} {work : LineWork} (h : a + work.remaining ≤ Config.memoryWords) :
    s.beginTake a work =
      .ok { s with mem := { s.mem with take := some { address := a, work := work, claimed := false } } } := if_pos h

/-- A read of one word gives the word and changes nothing. -/
theorem State.readWord_ok {s : State} {a : Nat} {w : Word} (h : s.readWord a = .ok w) :
    a < Config.memoryWords ∧ w = s.word a := by
  unfold State.readWord at h
  split at h
  · simp at h; exact ⟨by assumption, h.symm⟩
  · simp at h

end Sys2Proof.Machine
end

