-- ==== Sys2Proof/Laws/Queue.lean ====
section
/-! SUPPORT. What a take and a fill of the event queue can do (R150, R152, R153). Later proofs cite `take_cases`,
`fill_induction` and the `fill_…` equations and never unfold the arbiter. -/

namespace Sys2Proof.Machine

/-! ### Reports -/

/-- What a report takes out of the state: only the marks, lists and counts of the sources. -/
theorem State.report_frame {s t : State} {src : Source} {e : Event} (h : s.report src = some (e, t)) :
    t = { s with
      ctl := { s.ctl with lineStatePending := t.ctl.lineStatePending }
      lanes := t.lanes
      flags := { s.flags with signalled := t.flags.signalled }
      recv := { s.recv with ports := t.recv.ports }
      windows := t.windows
      presence := { s.presence with changed := t.presence.changed } } := by
  unfold State.report at h
  split at h
  · split at h <;> simp at h
    obtain ⟨-, rfl⟩ := h; rfl
  · split at h <;> simp at h
    obtain ⟨-, rfl⟩ := h; rfl
  · split at h <;> simp at h
    obtain ⟨-, rfl⟩ := h; rfl
  · split at h <;> simp at h
    obtain ⟨-, rfl⟩ := h; rfl
  · split at h <;> simp at h
    obtain ⟨-, rfl⟩ := h; rfl
  · split at h <;> simp at h
    obtain ⟨-, rfl⟩ := h; rfl

/-- A source that is pending has a report, and one that is not has none. -/
theorem State.report_isSome (s : State) (src : Source) : (s.report src).isSome = s.sourcePending src := by
  cases src with
  | port p => simp only [State.report, State.sourcePending]; split <;> simp_all
  | lane l => simp only [State.report, State.sourcePending]; split <;> simp_all
  | window w => simp only [State.report, State.sourcePending]; split <;> simp_all
  | signalled => simp only [State.report, State.sourcePending]; split <;> simp_all
  | presence => simp only [State.report, State.sourcePending]; split <;> simp_all
  | lineState => simp only [State.report, State.sourcePending]; split <;> simp_all

/-- A report of lane `i` takes its held event; no other report touches a lane. -/
theorem State.report_lanes {s t : State} {src : Source} {e : Event} (h : s.report src = some (e, t)) :
    (∃ i, src = .lane i ∧ s.lanes[i].heldEvent = some e ∧ t.lanes = s.lanes.set i (s.lanes[i].eventTaken i)) ∨
      t.lanes = s.lanes := by
  unfold State.report at h
  split at h
  · split at h <;> simp at h
    obtain ⟨-, rfl⟩ := h; exact .inr rfl
  · rename_i i
    split at h <;> simp at h
    obtain ⟨rfl, rfl⟩ := h; exact .inl ⟨i, rfl, by assumption, rfl⟩
  · split at h <;> simp at h
    obtain ⟨-, rfl⟩ := h; exact .inr rfl
  · split at h <;> simp at h
    obtain ⟨-, rfl⟩ := h; exact .inr rfl
  · split at h <;> simp at h
    obtain ⟨-, rfl⟩ := h; exact .inr rfl
  · split at h <;> simp at h
    obtain ⟨-, rfl⟩ := h; exact .inr rfl

/-- A report of port `p` takes the head of its completion list; no other report touches a port. -/
theorem State.report_ports {s t : State} {src : Source} {e : Event} (h : s.report src = some (e, t)) :
    (∃ p c rest, src = .port p ∧ s.recv.ports[p].completions = c :: rest ∧
      t.recv.ports = s.recv.ports.set p { s.recv.ports[p] with completions := rest }) ∨
      t.recv.ports = s.recv.ports := by
  unfold State.report at h
  split at h
  · rename_i p
    split at h
    · simp at h
    · rename_i c rest hc
      simp at h
      obtain ⟨-, rfl⟩ := h; exact .inl ⟨p, c, rest, rfl, hc, rfl⟩
  · split at h <;> simp at h
    obtain ⟨-, rfl⟩ := h; exact .inr rfl
  · split at h <;> simp at h
    obtain ⟨-, rfl⟩ := h; exact .inr rfl
  · split at h <;> simp at h
    obtain ⟨-, rfl⟩ := h; exact .inr rfl
  · split at h <;> simp at h
    obtain ⟨-, rfl⟩ := h; exact .inr rfl
  · split at h <;> simp at h
    obtain ⟨-, rfl⟩ := h; exact .inr rfl

/-- A report of window `w` takes its written-pending count; no other report touches a window. -/
theorem State.report_windows {s t : State} {src : Source} {e : Event} (h : s.report src = some (e, t)) :
    (∃ w, src = .window w ∧ t.windows = s.windows.set w { s.windows[w] with pending := 0 }) ∨
      t.windows = s.windows := by
  unfold State.report at h
  split at h
  · split at h <;> simp at h
    obtain ⟨-, rfl⟩ := h; exact .inr rfl
  · split at h <;> simp at h
    obtain ⟨-, rfl⟩ := h; exact .inr rfl
  · rename_i w
    split at h <;> simp at h
    obtain ⟨-, rfl⟩ := h; exact .inl ⟨w, rfl, rfl⟩
  · split at h <;> simp at h
    obtain ⟨-, rfl⟩ := h; exact .inr rfl
  · split at h <;> simp at h
    obtain ⟨-, rfl⟩ := h; exact .inr rfl
  · split at h <;> simp at h
    obtain ⟨-, rfl⟩ := h; exact .inr rfl

/-! ### Takes -/

/-- Everything one take can do (R152, R153). -/
theorem State.take_cases {s t : State} (h : s.take = some t) :
    ∃ pos e u, s.queue.entries.length < 64 ∧ s.nextSource = some pos ∧ s.report (sourceAt pos) = some (e, u) ∧
      t = u.enqueue pos e := by
  unfold State.take at h
  split at h
  · split at h
    · simp at h
    · rename_i hl _ pos hp
      split at h
      · simp at h
      · rename_i e u hr
        simp at h
        exact ⟨pos, e, u, hl, hp, hr, h.symm⟩
  · simp at h

/-- There is no take only when the queue is full or no source is pending. -/
theorem State.take_eq_none {s : State} (h : s.take = none) :
    64 ≤ s.queue.entries.length ∨ s.nextSource = none := by
  unfold State.take at h
  split at h
  · right
    cases hp : s.nextSource with
    | none => rfl
    | some pos =>
      have hs : s.sourcePending (sourceAt pos) = true := by
        have := List.find?_some hp; simpa using this
      rw [← State.report_isSome] at hs
      cases hr : s.report (sourceAt pos) with
      | none => simp [hr] at hs
      | some r => simp [hp, hr] at h
  · left; simp [Config.queueSize] at *; assumption

/-- What holds of a state and is kept by a take holds after the fill (R152). -/
theorem State.fill_induction {P : State → Prop} (s : State) (hs : P s)
    (hstep : ∀ u v, P u → u.take = some v → P v) : P s.fill := by
  have go : ∀ n u, P u → P (State.takes n u) := by
    intro n
    induction n with
    | zero => intro u hu; exact hu
    | succ n ih =>
      intro u hu
      simp only [State.takes]
      split
      · rename_i v hv; exact ih v (hstep u v hu hv)
      · exact hu
  exact go _ s hs

/-- A projection that no take changes is not changed by the fill. -/
theorem State.fill_keeps {α : Type} (f : State → α) (hstep : ∀ u v, u.take = some v → f v = f u) (s : State) :
    f s.fill = f s :=
  State.fill_induction (P := fun t => f t = f s) s rfl fun u v hu hv => (hstep u v hv).trans hu

/-- A take leaves all but the reporting sources and the queue as it is. -/
theorem State.take_frame {s t : State} (h : s.take = some t) :
    t.resetHeld = s.resetHeld ∧ t.line = s.line ∧ t.sched = s.sched ∧ t.host = s.host ∧ t.mem = s.mem ∧
      t.time = s.time ∧ t.pending = s.pending ∧ t.recv.contexts = s.recv.contexts ∧ t.recv.streams = s.recv.streams ∧
      t.presence.records = s.presence.records ∧ t.flags = { s.flags with signalled := t.flags.signalled } ∧
      t.ctl = { s.ctl with lineStatePending := t.ctl.lineStatePending } := by
  obtain ⟨pos, e, u, -, -, hr, rfl⟩ := State.take_cases h
  have := State.report_frame hr
  refine ⟨?_, ?_, ?_, ?_, ?_, ?_, ?_, ?_, ?_, ?_, ?_, ?_⟩ <;> rw [this] <;> rfl

@[simp] theorem State.fill_resetHeld (s : State) : s.fill.resetHeld = s.resetHeld :=
  State.fill_keeps State.resetHeld (fun _ _ h => (State.take_frame h).1) s
@[simp] theorem State.fill_line (s : State) : s.fill.line = s.line :=
  State.fill_keeps State.line (fun _ _ h => (State.take_frame h).2.1) s
@[simp] theorem State.fill_sched (s : State) : s.fill.sched = s.sched :=
  State.fill_keeps State.sched (fun _ _ h => (State.take_frame h).2.2.1) s
@[simp] theorem State.fill_host (s : State) : s.fill.host = s.host :=
  State.fill_keeps State.host (fun _ _ h => (State.take_frame h).2.2.2.1) s
@[simp] theorem State.fill_mem (s : State) : s.fill.mem = s.mem :=
  State.fill_keeps State.mem (fun _ _ h => (State.take_frame h).2.2.2.2.1) s
@[simp] theorem State.fill_time (s : State) : s.fill.time = s.time :=
  State.fill_keeps State.time (fun _ _ h => (State.take_frame h).2.2.2.2.2.1) s
@[simp] theorem State.fill_pending (s : State) : s.fill.pending = s.pending :=
  State.fill_keeps State.pending (fun _ _ h => (State.take_frame h).2.2.2.2.2.2.1) s
@[simp] theorem State.fill_contexts (s : State) : s.fill.recv.contexts = s.recv.contexts :=
  State.fill_keeps (fun t => t.recv.contexts) (fun _ _ h => (State.take_frame h).2.2.2.2.2.2.2.1) s
@[simp] theorem State.fill_streams (s : State) : s.fill.recv.streams = s.recv.streams :=
  State.fill_keeps (fun t => t.recv.streams) (fun _ _ h => (State.take_frame h).2.2.2.2.2.2.2.2.1) s
@[simp] theorem State.fill_records (s : State) : s.fill.presence.records = s.presence.records :=
  State.fill_keeps (fun t => t.presence.records) (fun _ _ h => (State.take_frame h).2.2.2.2.2.2.2.2.2.1) s
@[simp] theorem State.fill_word (s : State) (a : Nat) : s.fill.word a = s.word a := by simp [State.word]

/-- The fill changes of the flag unit only the signalled set. -/
theorem State.fill_flags (s : State) : s.fill.flags = { s.flags with signalled := s.fill.flags.signalled } := by
  refine State.fill_induction (P := fun t => t.flags = { s.flags with signalled := t.flags.signalled }) s rfl ?_
  intro u v hu hv
  have := (State.take_frame hv).2.2.2.2.2.2.2.2.2.2.1
  rw [this, hu]

/-- The fill changes of the station controller only the line-state pending mark. -/
theorem State.fill_ctl (s : State) :
    s.fill.ctl = { s.ctl with lineStatePending := s.fill.ctl.lineStatePending } := by
  refine State.fill_induction
    (P := fun t => t.ctl = { s.ctl with lineStatePending := t.ctl.lineStatePending }) s rfl ?_
  intro u v hu hv
  have := (State.take_frame hv).2.2.2.2.2.2.2.2.2.2.2
  rw [this, hu]

/-- The fill changes of a port only its completion list (R153). -/
theorem State.fill_port (s : State) (q : Fin 16) :
    s.fill.recv.ports[q] = { s.recv.ports[q] with completions := s.fill.recv.ports[q].completions } := by
  refine State.fill_induction
    (P := fun t => t.recv.ports[q] = { s.recv.ports[q] with completions := t.recv.ports[q].completions }) s rfl ?_
  intro u v hu hv
  obtain ⟨pos, e, w, -, -, hr, rfl⟩ := State.take_cases hv
  show w.recv.ports[q] = { s.recv.ports[q] with completions := w.recv.ports[q].completions }
  rcases State.report_ports hr with ⟨p, c, rest, -, -, hp⟩ | hp <;> rw [hp]
  · simp only [Fin.getElem_fin, Vector.getElem_set]
    split
    · rename_i h
      have : p = q := Fin.ext h
      subst this
      simp only [Fin.getElem_fin] at hu
      rw [hu]
    · exact hu
  · exact hu

/-- The fill changes of a window entry only its written-pending count (R153). -/
theorem State.fill_window (s : State) (w : Fin 8) :
    s.fill.windows[w] = { s.windows[w] with pending := s.fill.windows[w].pending } := by
  refine State.fill_induction
    (P := fun t => t.windows[w] = { s.windows[w] with pending := t.windows[w].pending }) s rfl ?_
  intro u v hu hv
  obtain ⟨pos, e, x, -, -, hr, rfl⟩ := State.take_cases hv
  show x.windows[w] = { s.windows[w] with pending := x.windows[w].pending }
  rcases State.report_windows hr with ⟨p, -, hp⟩ | hp <;> rw [hp]
  · simp only [Fin.getElem_fin, Vector.getElem_set]
    split
    · rename_i h
      have : p = w := Fin.ext h
      subst this
      simp only [Fin.getElem_fin] at hu
      rw [hu]
    · exact hu
  · exact hu

end Sys2Proof.Machine
end

