-- ==== Sys2Proof/Laws/Receive.lean ====
section
/-! SUPPORT. Abandonment and buffer accounting at the receive unit (R110, R115). -/

namespace Sys2Proof.Machine

/-- A context table entry holds an open context whose port is `p`. -/
def opensOn (p : Fin 16) (c : Option Context) : Bool := c.any fun x => x.port == p

theorem ReceiveUnit.openContexts_setContext (r : ReceiveUnit) (i : Fin 12) (c : Option Context) (p : Fin 16) :
    (r.setContext i c).openContexts p + (opensOn p r.contexts[i]).toNat =
      r.openContexts p + (opensOn p c).toNat := by
  have hl : i.val < r.contexts.toList.length := by simp
  have h := List.countP_set (p := opensOn p) (a := c) hl
  have hpos : opensOn p r.contexts[i] = true → 0 < r.contexts.toList.countP (opensOn p) := by
    intro h1
    rw [List.countP_pos_iff]
    exact ⟨r.contexts[i], by simp, h1⟩
  have e1 : (r.setContext i c).openContexts p = (r.contexts.toList.set i.val c).countP (opensOn p) := by
    simp [ReceiveUnit.openContexts, ReceiveUnit.setContext, Vector.toList_set]; rfl
  have e2 : r.openContexts p = r.contexts.toList.countP (opensOn p) := rfl
  have e3 : r.contexts.toList[i.val] = r.contexts[i] := by simp
  rw [e3] at h
  rw [e1, e2, h]
  generalize r.contexts.toList.countP (opensOn p) = n at hpos ⊢
  by_cases h1 : opensOn p r.contexts[i] = true
  · have := hpos h1
    by_cases h2 : opensOn p c = true
    · simp only [h1, h2, if_true, Bool.toNat_true]; omega
    · simp only [h1, h2, if_true, Bool.toNat_true, Bool.toNat_false, Bool.false_eq_true, if_false]; omega
  · by_cases h2 : opensOn p c = true
    · simp only [h1, h2, if_true, Bool.toNat_true, Bool.toNat_false, Bool.false_eq_true, if_false]; omega
    · simp only [h1, h2, Bool.toNat_false, Bool.false_eq_true, if_false]; omega

/-- The buffer count changes with the lengths of the two lists. -/
theorem ReceiveUnit.bufferCount_updatePort (r : ReceiveUnit) (p q : Fin 16) (f : Port → Port) :
    (r.updatePort p f).bufferCount q =
      if q = p then (f r.ports[p]).posted.length + r.openContexts p + (f r.ports[p]).completions.length
      else r.bufferCount q := by
  simp only [ReceiveUnit.bufferCount, ReceiveUnit.ports_updatePort_get]
  split
  · subst_vars; rfl
  · rfl

/-- Everything one abandonment can do (R115): the entry becomes free, one completion entry joins the list of the
context's port, and the buffer count of every port stays. -/
theorem ReceiveUnit.abandon_spec (r : ReceiveUnit) (i : Fin 12) (st : ReceiveStatus) :
    (∀ j : Fin 12, (r.abandon i st).contexts[j] = if j = i then none else r.contexts[j]) ∧
    (r.abandon i st).streams = r.streams ∧
    (∀ q : Fin 16, (r.abandon i st).ports[q] =
      match r.contexts[i] with
      | some c =>
        if q = c.port then
          { r.ports[q] with completions := r.ports[q].completions ++ [c.completion st c.stored] }
        else r.ports[q]
      | none => r.ports[q]) ∧
    ∀ q : Fin 16, (r.abandon i st).bufferCount q = r.bufferCount q := by
  cases hc : r.contexts[i] with
  | none =>
    have e : r.abandon i st = r := by simp only [ReceiveUnit.abandon, hc]
    rw [e]
    refine ⟨fun j => ?_, rfl, fun q => rfl, fun q => rfl⟩
    split
    · subst_vars; exact hc
    · rfl
  | some c =>
    have e : r.abandon i st = (r.complete c.port (c.completion st c.stored)).setContext i none := by
      simp only [ReceiveUnit.abandon, hc]
    rw [e]
    refine ⟨fun j => ReceiveUnit.contexts_setContext_get _ _ _ _, rfl, fun q => ?_, fun q => ?_⟩
    · rw [ReceiveUnit.setContext_ports, ReceiveUnit.ports_complete_get]
      by_cases hq : q = c.port
      · subst hq; simp
      · simp [hq]
    · have h1 := ReceiveUnit.openContexts_setContext (r.complete c.port (c.completion st c.stored)) i none q
      rw [ReceiveUnit.complete_contexts, hc] at h1
      simp only [ReceiveUnit.bufferCount, ReceiveUnit.setContext_ports, ReceiveUnit.ports_complete_get]
      have h2 : (r.complete c.port (c.completion st c.stored)).openContexts q = r.openContexts q := rfl
      rw [h2] at h1
      by_cases hq : q = c.port
      · subst hq
        simp [opensOn] at h1
        simp; omega
      · have : opensOn q (some c) = false := by simp [opensOn, Ne.symm hq]
        rw [this] at h1
        simp [opensOn] at h1
        rw [if_neg hq, h1]

/-- Everything the abandonment of many contexts can do (R115): exactly the contexts that satisfy `p` go, each leaving one
completion entry with the status at its port, and every buffer count stays. -/
theorem ReceiveUnit.abandonAll_spec (r : ReceiveUnit) (st : ReceiveStatus) (p : Context → Bool) :
    (∀ i : Fin 12, (r.abandonAll st p).contexts[i] = r.contexts[i].filter fun c => !p c) ∧
    (r.abandonAll st p).streams = r.streams ∧
    (∀ q : Fin 16, (r.abandonAll st p).bufferCount q = r.bufferCount q) ∧
    ∀ q : Fin 16, (r.abandonAll st p).ports[q].isOpen = r.ports[q].isOpen ∧
      (r.abandonAll st p).ports[q].posted = r.ports[q].posted ∧
      ∃ added : List Completion, (r.abandonAll st p).ports[q].completions = r.ports[q].completions ++ added ∧
        ∀ x ∈ added, ∃ i : Fin 12, ∃ c, r.contexts[i] = some c ∧ p c = true ∧ c.port = q ∧
          x = c.completion st c.stored := by
  let step (u : ReceiveUnit) (i : Fin 12) : ReceiveUnit := if u.contexts[i].any p then u.abandon i st else u
  suffices h : ∀ (l : List (Fin 12)) (u : ReceiveUnit),
      (∀ i : Fin 12, u.contexts[i] = r.contexts[i] ∨ u.contexts[i] = none) →
      (∀ i : Fin 12, (l.foldl step u).contexts[i] =
        if i ∈ l then u.contexts[i].filter (fun c => !p c) else u.contexts[i]) ∧
      (l.foldl step u).streams = u.streams ∧
      (∀ q : Fin 16, (l.foldl step u).bufferCount q = u.bufferCount q) ∧
      ∀ q : Fin 16, (l.foldl step u).ports[q].isOpen = u.ports[q].isOpen ∧
        (l.foldl step u).ports[q].posted = u.ports[q].posted ∧
        ∃ added : List Completion, (l.foldl step u).ports[q].completions = u.ports[q].completions ++ added ∧
          ∀ x ∈ added, ∃ i : Fin 12, ∃ c, r.contexts[i] = some c ∧ p c = true ∧ c.port = q ∧
            x = c.completion st c.stored by
    obtain ⟨h1, h2, h3, h4⟩ := h (List.finRange 12) r fun i => .inl rfl
    exact ⟨fun i => (h1 i).trans (if_pos (List.mem_finRange i)), h2, h3, h4⟩
  intro l
  induction l with
  | nil => intro u hu; exact ⟨fun i => by simp, rfl, fun q => rfl, fun q => ⟨rfl, rfl, [], by simp, by simp⟩⟩
  | cons a l ih =>
    intro u hu
    by_cases ha : u.contexts[a].any p = true
    · have hs : step u a = u.abandon a st := by simp only [step, ha, if_true]
      rw [List.foldl_cons, hs]
      obtain ⟨c, hc⟩ : ∃ c, u.contexts[a] = some c := by
        cases h : u.contexts[a] with
        | none => simp [h] at ha
        | some c => exact ⟨c, rfl⟩
      have hpc : p c = true := by simpa [hc] using ha
      have hrc : r.contexts[a] = some c := by
        rcases hu a with h | h
        · rw [← h, hc]
        · rw [h] at hc; simp at hc
      obtain ⟨a1, a2, a3, a4⟩ := u.abandon_spec a st
      obtain ⟨h1, h2, h3, h4⟩ := ih (u.abandon a st) fun i => by
        rw [a1 i]
        split
        · exact .inr rfl
        · exact hu i
      refine ⟨fun i => ?_, h2.trans a2, fun q => (h3 q).trans (a4 q), fun q => ?_⟩
      · rw [h1 i, a1 i]
        by_cases hi : i = a
        · subst hi
          rw [hc, if_pos rfl, if_pos List.mem_cons_self]
          simp [Option.filter, hpc]
        · simp [hi]
      · obtain ⟨g1, g2, added, g3, g4⟩ := h4 q
        rw [a3 q, hc] at g1 g2 g3
        simp only at g1 g2 g3
        by_cases hq : q = c.port
        · rw [if_pos hq] at g1 g2 g3
          refine ⟨g1, g2, c.completion st c.stored :: added, by rw [g3]; simp, fun x hx => ?_⟩
          rcases List.mem_cons.mp hx with rfl | hx
          · exact ⟨a, c, hrc, hpc, hq.symm, rfl⟩
          · exact g4 x hx
        · rw [if_neg hq] at g1 g2 g3
          exact ⟨g1, g2, added, g3, g4⟩
    · have hs : step u a = u := by simp only [step, ha]; rfl
      rw [List.foldl_cons, hs]
      obtain ⟨h1, h2, h3, h4⟩ := ih u hu
      refine ⟨fun i => ?_, h2, h3, h4⟩
      rw [h1 i]
      by_cases hi : i = a
      · subst hi
        rw [if_pos List.mem_cons_self]
        cases hc : u.contexts[i] with
        | none => simp
        | some c =>
          have : p c = false := by simpa [hc] using ha
          simp [Option.filter, this]
      · simp [hi]

/-- The completion entries of an abandonment of many contexts, in their order (R115). -/
theorem ReceiveUnit.abandonAll_completions (r : ReceiveUnit) (st : ReceiveStatus) (p : Context → Bool) (q : Fin 16) :
    (r.abandonAll st p).ports[q].completions = r.ports[q].completions ++ r.abandonedEntries st p q := by
  let step (u : ReceiveUnit) (i : Fin 12) : ReceiveUnit := if u.contexts[i].any p then u.abandon i st else u
  let entry (i : Fin 12) : Option Completion :=
    (r.contexts[i].filter fun c => p c && c.port == q).map fun c =>
      { buffer := c.buffer.address, status := st, length := c.stored, source := some c.source, message := some c.message }
  suffices h : ∀ (l : List (Fin 12)) (u : ReceiveUnit), l.Nodup → (∀ i ∈ l, u.contexts[i] = r.contexts[i]) →
      (l.foldl step u).ports[q].completions = u.ports[q].completions ++ l.filterMap entry from
    h (List.finRange 12) r (List.nodup_finRange 12) fun _ _ => rfl
  intro l
  induction l with
  | nil => intro u _ _; simp
  | cons a l ih =>
    intro u hn hu
    have hnot : a ∉ l := (List.nodup_cons.mp hn).1
    have ha : u.contexts[a] = r.contexts[a] := hu a List.mem_cons_self
    obtain ⟨a1, -, a3, -⟩ := u.abandon_spec a st
    rw [List.foldl_cons]
    cases hc : r.contexts[a] with
    | none =>
      have hs : step u a = u := by simp only [step, ha, hc]; rfl
      rw [hs, ih u (List.nodup_cons.mp hn).2 fun i hi => hu i (List.mem_cons_of_mem a hi)]
      have he : entry a = none := by simp only [entry, hc]; rfl
      rw [List.filterMap_cons_none he]
    | some c =>
      by_cases hp : p c = true
      · have hs : step u a = u.abandon a st := by simp only [step, ha, hc, Option.any_some, hp, if_true]
        have hrest : ∀ i ∈ l, (u.abandon a st).contexts[i] = r.contexts[i] := fun i hi => by
          rw [a1 i, if_neg (by rintro rfl; exact hnot hi)]
          exact hu i (List.mem_cons_of_mem a hi)
        rw [hs, ih _ (List.nodup_cons.mp hn).2 hrest, a3 q, ha, hc]
        by_cases hq : q = c.port
        · subst hq
          have he : entry a = some (c.completion st c.stored) := by
            simp only [entry, hc, Option.filter, hp, Bool.true_and, beq_self_eq_true, if_true]; rfl
          rw [List.filterMap_cons_some he]
          simp
        · have he : entry a = none := by simp only [entry, hc]; simp [Option.filter, hp, Ne.symm hq]
          rw [List.filterMap_cons_none he]
          simp [hq]
      · have hs : step u a = u := by simp only [step, ha, hc, Option.any_some, hp]; rfl
        rw [hs, ih u (List.nodup_cons.mp hn).2 fun i hi => hu i (List.mem_cons_of_mem a hi)]
        have he : entry a = none := by simp only [entry, hc]; simp [Option.filter, hp]
        rw [List.filterMap_cons_none he]

end Sys2Proof.Machine
end

