-- ==== Sys2Proof/Laws/Takes.lean ====
section
/-! SUPPORT. Line-side takes (R119, R134, R135, R161): what one word access and the completion of a take do. -/

namespace Sys2Proof.Machine

/-- With no take in progress there is nothing to complete. -/
theorem State.finishTake_none {s : State} (h : s.mem.take = none) : s.finishTake = s := by
  simp [State.finishTake, BufferMemory.served, BufferMemory.lastWork, h]

/-- A store in progress is completed by its words and what follows them. -/
theorem State.finishTake_store {s : State} {k : LineTake} {rest : List Word} {done : StoreEnd}
    (h : s.mem.take = some k) (hk : k.work = .store rest done) :
    s.finishTake =
      ({ s with mem := { s.mem with cells := writeCells s.mem.cells k.address rest, take := none } }).takeEnds
        (.store [] done) := by
  simp [State.finishTake, State.takeEnds, BufferMemory.served, BufferMemory.lastWork, h, hk]

/-- A fetch in progress is completed by the words it has still to fetch. -/
theorem State.finishTake_fetch {s : State} {k : LineTake} {n : Nat} {got : List Word} (h : s.mem.take = some k)
    (hk : k.work = .fetch n got) :
    s.finishTake = ({ s with mem := { s.mem with take := none } }).takeEnds
      (.fetch 0 (got ++ readCells s.mem.cells k.address n)) := by
  simp [State.finishTake, State.takeEnds, BufferMemory.served, BufferMemory.lastWork, h, hk]

/-- A completed take is no longer in progress. -/
@[simp] theorem State.finishTake_take (s : State) : s.finishTake.mem.take = none := by
  show s.mem.served.take = none
  unfold BufferMemory.served
  split
  · assumption
  · split <;> rfl

/-- The completion of a take changes the line only in the words of the reply that is owed. -/
theorem State.finishTake_line (s : State) :
    s.finishTake.line = { s.line with reply := s.finishTake.line.reply } := rfl

/-- The frame end drops any reply, so it is the same before and after the completion of a take. -/
@[simp] theorem State.finishTake_frameEnds (s : State) : s.finishTake.line.frameEnds = s.line.frameEnds := rfl

/-- What stays of a window entry when a take is completed (R134). -/
theorem LineWork.windowsDone_get (k : LineWork) (ws : Vector Window 8) (w : Fin 8) :
    (k.windowsDone ws)[w] = { ws[w] with
      updates := (k.windowsDone ws)[w].updates
      lastWriter := (k.windowsDone ws)[w].lastWriter
      pending := (k.windowsDone ws)[w].pending } := by
  match k with
  | .store _ (.segment _ _ _) => rfl
  | .fetch _ _ => rfl
  | .store _ (.window v p) =>
    simp only [LineWork.windowsDone, Fin.getElem_fin, Vector.getElem_set]
    split
    · rename_i h
      simp [Window.written, h]
    · rfl

/-- The definitions of the windows are not touched by the completion of a take (R134). -/
theorem State.finishTake_window (s : State) (w : Fin 8) :
    s.finishTake.windows[w] = { s.windows[w] with
      updates := s.finishTake.windows[w].updates
      lastWriter := s.finishTake.windows[w].lastWriter
      pending := s.finishTake.windows[w].pending } := by
  show (s.mem.lastWork.elim s.windows fun k => k.windowsDone s.windows)[w] = _
  cases h : s.mem.lastWork with
  | none => simp [State.finishTake, h]
  | some k => simpa [State.finishTake, h] using k.windowsDone_get s.windows w

/-- The store of a segment keeps every port's open mark (R119, R121). -/
theorem ReceiveUnit.segmentStored_isOpen (r : ReceiveUnit) (i : Fin 12) (c : Context) (opens : Bool) (q : Fin 16) :
    (r.segmentStored i c opens).ports[q].isOpen = r.ports[q].isOpen := by
  have head : ∀ p, (r.takeHead p).ports[q].isOpen = r.ports[q].isOpen := fun p => by
    unfold ReceiveUnit.takeHead; rw [ReceiveUnit.ports_updatePort_get]; split
    · simp_all
    · rfl
  have after : ∀ r : ReceiveUnit, (r.afterStore i c).ports[q].isOpen = r.ports[q].isOpen := fun r => by
    unfold ReceiveUnit.afterStore
    split
    · simp only [ReceiveUnit.setContext_ports, ReceiveUnit.setStream_ports]
      rw [ReceiveUnit.ports_complete_get]; split
      · simp_all
      · rfl
    · rfl
  unfold ReceiveUnit.segmentStored
  rw [after]
  split
  · exact head _
  · rfl

/-- The completion of a take keeps every port's open mark. -/
@[simp] theorem State.finishTake_isOpen (s : State) (q : Fin 16) :
    s.finishTake.recv.ports[q].isOpen = s.recv.ports[q].isOpen := by
  show (s.mem.lastWork.elim s.recv fun k => k.recvDone s.recv).ports[q].isOpen = _
  cases s.mem.lastWork with
  | none => rfl
  | some k =>
    match k with
    | .store _ (.segment i c opens) => exact s.recv.segmentStored_isOpen i c opens q
    | .store _ (.window _ _) => rfl
    | .fetch _ _ => rfl

/-- One word access of a store that is not its last. -/
theorem State.lineAccess_store {s : State} {k : LineTake} {w v : Word} {rest : List Word} {done : StoreEnd}
    (h : s.mem.take = some k) (hk : k.work = .store (w :: v :: rest) done) :
    s.lineAccess = { s with mem := { s.mem with
      cells := writeCell k.address w s.mem.cells
      take := some { address := k.address + 1, work := .store (v :: rest) done, claimed := false } } } := by
  simp [State.lineAccess, State.takeGoesOn, LineWork.remaining, h, hk]

/-- The last word access of a store. -/
theorem State.lineAccess_store_last {s : State} {k : LineTake} {w : Word} {done : StoreEnd}
    (h : s.mem.take = some k) (hk : k.work = .store [w] done) :
    s.lineAccess = ({ s with mem := { s.mem with
      cells := writeCell k.address w s.mem.cells, take := none } }).takeEnds (.store [] done) := by
  simp [State.lineAccess, State.takeGoesOn, LineWork.remaining, h, hk]

/-- One word access of a fetch that is not its last. -/
theorem State.lineAccess_fetch {s : State} {k : LineTake} {n : Nat} {got : List Word} (h : s.mem.take = some k)
    (hk : k.work = .fetch (n + 2) got) :
    s.lineAccess = { s with mem := { s.mem with
      take := some { address := k.address + 1, work := .fetch (n + 1) (got ++ [s.word k.address]), claimed := false } } } := by
  simp [State.lineAccess, State.takeGoesOn, LineWork.remaining, h, hk]

/-- The last word access of a fetch. -/
theorem State.lineAccess_fetch_last {s : State} {k : LineTake} {got : List Word} (h : s.mem.take = some k)
    (hk : k.work = .fetch 1 got) :
    s.lineAccess =
      ({ s with mem := { s.mem with take := none } }).takeEnds (.fetch 0 (got ++ [s.word k.address])) := by
  simp [State.lineAccess, State.takeGoesOn, LineWork.remaining, h, hk]

/-- Buffer memory keeps its canonical form through one word access of the take in progress. -/
theorem State.lineAccess_wf {s : State} (h : s.mem.wf = true) : s.lineAccess.mem.wf = true := by
  have hw := (BufferMemory.wf_iff s.mem).mp h
  have none_wf : ∀ m : BufferMemory, m.wf = true → ({ m with take := none } : BufferMemory).wf = true := fun m hm => by
    rw [BufferMemory.wf_iff] at *; exact ⟨hm.1, hm.2.1, fun _ hk => by cases hk⟩
  unfold State.lineAccess
  split
  · exact h
  rename_i k hk
  have ha := hw.2.2 k hk
  split <;> rename_i hwork <;> rw [hwork] at ha <;> simp only [LineWork.remaining, List.length_cons, List.length_nil] at ha
  · rename_i w rest done
    have h1 := wf_writeCell h (a := k.address) (by omega) w
    unfold State.takeGoesOn
    split
    · exact none_wf _ h1
    · rw [BufferMemory.wf_iff] at h1 ⊢
      exact ⟨h1.1, h1.2.1, fun j hj => by injection hj with hj; subst hj; simp only [LineWork.remaining]; omega⟩
  · rename_i n got
    unfold State.takeGoesOn
    split
    · exact none_wf _ h
    · rw [BufferMemory.wf_iff]
      exact ⟨hw.1, hw.2.1, fun j hj => by injection hj with hj; subst hj; simp only [LineWork.remaining]; omega⟩
  · exact none_wf _ h
  · exact none_wf _ h

/-- Buffer memory keeps its canonical form through the completion of a take. -/
theorem BufferMemory.served_wf {m : BufferMemory} (h : m.wf = true) : m.served.wf = true := by
  have hw := (BufferMemory.wf_iff m).mp h
  unfold BufferMemory.served
  split
  · exact h
  rename_i k hk
  have ha := hw.2.2 k hk
  split <;> rename_i hwork <;> rw [hwork] at ha
  · have h1 := wf_writeCells h _ ha
    rw [BufferMemory.wf_iff] at h1 ⊢
    exact ⟨h1.1, h1.2.1, fun _ hj => by cases hj⟩
  · rw [BufferMemory.wf_iff]
    exact ⟨hw.1, hw.2.1, fun _ hj => by cases hj⟩

/-- Buffer memory keeps its canonical form when a take begins. -/
theorem State.beginTake_wf {s t : State} {a : Nat} {work : LineWork} (h : s.mem.wf = true)
    (hb : s.beginTake a work = .ok t) : t.mem.wf = true := by
  obtain ⟨ha, rfl⟩ := State.beginTake_ok hb
  have hw := (BufferMemory.wf_iff s.mem).mp h
  rw [BufferMemory.wf_iff]
  exact ⟨hw.1, hw.2.1, fun j hj => by injection hj with hj; subst hj; exact ha⟩

/-! ### The end of a take before a later event -/

/-- With no take in progress a later event finds the state as it stands. -/
theorem State.settleTake_none {s : State} (h : s.mem.take = none) : s.settleTake = s := by simp [State.settleTake, h]

/-- A take in progress comes to its end, and the event queue fills (R152). -/
theorem State.settleTake_some {s : State} (h : s.mem.take ≠ none) : s.settleTake = s.finishTake.fill := by
  cases ht : s.mem.take with
  | none => exact absurd ht h
  | some k => simp [State.settleTake, ht]

/-- What holds of the state with its take complete, and is kept by the fill, holds once the take is settled. -/
theorem State.settleTake_induction {P : State → Prop} (s : State) (hs : P s.finishTake) (hf : ∀ t, P t → P t.fill) :
    P s.settleTake := by
  cases ht : s.mem.take with
  | none => rw [State.settleTake_none ht, ← State.finishTake_none ht]; exact hs
  | some k => rw [State.settleTake_some (by simp [ht])]; exact hf _ hs

/-- A projection that the fill does not change is that of the state with its take complete. -/
theorem State.settleTake_keeps {α : Type} (f : State → α) (hf : ∀ t : State, f t.fill = f t) (s : State) :
    f s.settleTake = f s.finishTake :=
  State.settleTake_induction (P := fun t => f t = f s.finishTake) s rfl fun t ht => (hf t).trans ht

@[simp] theorem State.settleTake_resetHeld (s : State) : s.settleTake.resetHeld = s.resetHeld :=
  State.settleTake_keeps State.resetHeld State.fill_resetHeld s
@[simp] theorem State.settleTake_sched (s : State) : s.settleTake.sched = s.sched :=
  State.settleTake_keeps State.sched State.fill_sched s
@[simp] theorem State.settleTake_host (s : State) : s.settleTake.host = s.host :=
  State.settleTake_keeps State.host State.fill_host s
@[simp] theorem State.settleTake_time (s : State) : s.settleTake.time = s.time :=
  State.settleTake_keeps State.time State.fill_time s
@[simp] theorem State.settleTake_pending (s : State) : s.settleTake.pending = s.pending :=
  State.settleTake_keeps State.pending State.fill_pending s
@[simp] theorem State.settleTake_mem (s : State) : s.settleTake.mem = s.finishTake.mem :=
  State.settleTake_keeps State.mem State.fill_mem s
@[simp] theorem State.settleTake_line (s : State) : s.settleTake.line = s.finishTake.line :=
  State.settleTake_keeps State.line State.fill_line s
@[simp] theorem State.settleTake_contexts (s : State) : s.settleTake.recv.contexts = s.finishTake.recv.contexts :=
  State.settleTake_keeps (fun t => t.recv.contexts) State.fill_contexts s
@[simp] theorem State.settleTake_streams (s : State) : s.settleTake.recv.streams = s.finishTake.recv.streams :=
  State.settleTake_keeps (fun t => t.recv.streams) State.fill_streams s
@[simp] theorem State.settleTake_records (s : State) : s.settleTake.presence.records = s.presence.records :=
  State.settleTake_keeps (fun t => t.presence.records) State.fill_records s

/-- Settling a take changes of the flag unit only the signalled set. -/
theorem State.settleTake_flags (s : State) :
    s.settleTake.flags = { s.flags with signalled := s.settleTake.flags.signalled } :=
  State.settleTake_induction (P := fun t => t.flags = { s.flags with signalled := t.flags.signalled }) s rfl
    fun t ht => by rw [State.fill_flags, ht]

/-- Settling a take changes of the station controller only the line-state pending mark. -/
theorem State.settleTake_ctl (s : State) :
    s.settleTake.ctl = { s.ctl with lineStatePending := s.settleTake.ctl.lineStatePending } :=
  State.settleTake_induction (P := fun t => t.ctl = { s.ctl with lineStatePending := t.ctl.lineStatePending }) s rfl
    fun t ht => by rw [State.fill_ctl, ht]

@[simp] theorem State.settleTake_number (s : State) : s.settleTake.ctl.number = s.ctl.number := by
  rw [State.settleTake_ctl]
@[simp] theorem State.settleTake_count (s : State) : s.settleTake.ctl.count = s.ctl.count := by
  rw [State.settleTake_ctl]
@[simp] theorem State.settleTake_participation (s : State) :
    s.settleTake.ctl.participation = s.ctl.participation := by
  rw [State.settleTake_ctl]

/-- Settling a take keeps every port's open mark. -/
@[simp] theorem State.settleTake_isOpen (s : State) (q : Fin 16) :
    s.settleTake.recv.ports[q].isOpen = s.recv.ports[q].isOpen :=
  (State.settleTake_keeps (fun t => t.recv.ports[q].isOpen) (fun t => by rw [State.fill_port]) s).trans
    (s.finishTake_isOpen q)

/-- Settling a take keeps the definitions of the windows (R134). -/
theorem State.settleTake_window (s : State) (w : Fin 8) :
    s.settleTake.windows[w] = { s.windows[w] with
      updates := s.settleTake.windows[w].updates
      lastWriter := s.settleTake.windows[w].lastWriter
      pending := s.settleTake.windows[w].pending } :=
  State.settleTake_induction
    (P := fun t => t.windows[w] = { s.windows[w] with
      updates := t.windows[w].updates, lastWriter := t.windows[w].lastWriter, pending := t.windows[w].pending }) s
    (s.finishTake_window w) fun t ht => by rw [State.fill_window, ht]

/-! ### Access by access -/

/-- The accesses that are left, one by one, complete the take: with `n` accesses, at least as many as are left. -/
theorem State.lineAccesses_eq (n : Nat) : ∀ (s : State) (k : LineTake), s.mem.take = some k → k.work.remaining ≤ n →
    1 ≤ n → State.lineAccesses n s = s.finishTake := by
  have idle : ∀ n (s : State), s.mem.take = none → State.lineAccesses n s = s := by
    intro n
    induction n with
    | zero => intro s _; rfl
    | succ n ih =>
      intro s h
      have : s.lineAccess = s := by simp [State.lineAccess, h]
      rw [State.lineAccesses, this, ih s h]
  induction n with
  | zero => intro s k _ _ h; omega
  | succ n ih =>
    intro s k h hr _
    rw [State.lineAccesses]
    match hk : k.work with
    | .store [] done =>
      rw [idle n _ (by simp [State.lineAccess, State.takeGoesOn, LineWork.remaining, h, hk]), State.finishTake_store h hk]
      simp [State.lineAccess, State.takeGoesOn, LineWork.remaining, h, hk, writeCells]
    | .store [w] done =>
      rw [State.lineAccess_store_last h hk, idle n _ rfl, State.finishTake_store h hk]
      rfl
    | .store (w :: v :: rest) done =>
      rw [State.lineAccess_store h hk]
      rw [hk] at hr
      simp only [LineWork.remaining, List.length_cons] at hr
      rw [ih _ _ rfl (by simp only [LineWork.remaining, List.length_cons]; omega) (by omega),
        State.finishTake_store (k := { address := k.address + 1, work := .store (v :: rest) done, claimed := false }) rfl rfl,
        State.finishTake_store h hk]
      rfl
    | .fetch 0 got =>
      rw [idle n _ (by simp [State.lineAccess, State.takeGoesOn, LineWork.remaining, h, hk]), State.finishTake_fetch h hk]
      simp [State.lineAccess, State.takeGoesOn, LineWork.remaining, h, hk, readCells]
    | .fetch 1 got =>
      rw [State.lineAccess_fetch_last h hk, idle n _ rfl, State.finishTake_fetch h hk]
      simp [readCells, State.word]
    | .fetch (m + 2) got =>
      rw [State.lineAccess_fetch h hk]
      rw [hk] at hr
      simp only [LineWork.remaining] at hr
      rw [ih _ _ rfl (by simp only [LineWork.remaining]; omega) (by omega),
        State.finishTake_fetch (k :=
          { address := k.address + 1, work := .fetch (m + 1) (got ++ [s.word k.address]), claimed := false }) rfl rfl,
        State.finishTake_fetch h hk]
      congr 2
      simp only [readCells, List.range_succ_eq_map (n := m + 1), List.map_cons, List.map_map, State.word,
        List.append_assoc, List.singleton_append, Nat.add_zero]
      congr 2
      refine List.map_congr_left fun x _ => ?_
      simp only [Function.comp]
      congr 1
      omega

end Sys2Proof.Machine
end

