-- ==== Sys2Proof/Laws/Station.lean ====
section
/-! SUPPORT. What the operations of the station controller do, as one record each (R27 to R37). -/

namespace Sys2Proof.Machine

/-- Everything gaining sync can do (R29). -/
theorem StationController.gainSync_eq (c : StationController) (r : Reason) :
    c.gainSync r = { c with
      sync := .synced
      reason := if c.sync = .unsynced then r else c.reason
      lineStatePending := c.lineStatePending || c.sync == .unsynced } := by
  unfold StationController.gainSync StationController.record
  cases c with | mk _ _ _ _ sync => cases sync <;> simp

/-- Everything losing sync can do (R29, R34). -/
theorem StationController.loseSync_eq (c : StationController) (r : Reason) :
    c.loseSync r = { c with
      sync := .unsynced
      reason := if c.sync = .synced then r else c.reason
      lineStatePending := c.lineStatePending || c.sync == .synced } := by
  unfold StationController.loseSync StationController.record
  cases c with | mk _ _ _ _ sync => cases sync <;> simp

/-- An observed collision changes the station controller of an ACTIVE or LEAVING station only (R22, R33). -/
theorem State.observedCollision_eq (s : State) :
    s.observedCollision = { s with ctl := if s.onLine then s.ctl.observedCollision else s.ctl } := by
  unfold State.observedCollision
  split <;> rfl

/-- A stuck notice changes the station controller of an ACTIVE or LEAVING station only (R22, R37). -/
theorem State.stuckNotice_eq (s : State) :
    s.stuckNotice =
      { s with ctl := if s.onLine then { s.ctl.record .stuck with sync := .unsynced } else s.ctl } := by
  unfold State.stuckNotice
  split <;> rfl

/-- What entry to OFFLINE or FAULTED does outside the lanes (R27, R28). -/
theorem State.leaveLine_eq (s : State) (p : Participation) (r : Reason) :
    s.leaveLine p r = { s with
      ctl := { s.ctl with
        participation := p, sync := .unsynced, last := none, silence := none, beacon := none, reason := r
        lineStatePending := true }
      sched := { s.sched with
        pendingAnnounce := false
        beaconDue := false
        reoffer := none
        exchange := s.sched.exchange.map ExchangeRecord.loseLine }
      line := { s.line with reply := none }
      lanes := Vector.ofFn fun i => s.lanes[i].lineLoss } := rfl

theorem State.leaveLine_lanes_get (s : State) (p : Participation) (r : Reason) (i : Fin 8) :
    (s.leaveLine p r).lanes[i] = s.lanes[i].lineLoss := by
  simp [State.leaveLine, State.mapLanes]

@[simp] theorem State.enterFaulted_resetHeld (s : State) (r : Reason) : (s.enterFaulted r).resetHeld = s.resetHeld := s.settleTake_resetHeld
@[simp] theorem State.enterFaulted_host (s : State) (r : Reason) : (s.enterFaulted r).host = s.host := s.settleTake_host
@[simp] theorem State.enterFaulted_time (s : State) (r : Reason) : (s.enterFaulted r).time = s.time := s.settleTake_time
@[simp] theorem State.enterFaulted_pending (s : State) (r : Reason) : (s.enterFaulted r).pending = s.pending := s.settleTake_pending
@[simp] theorem State.enterFaulted_flags (s : State) (r : Reason) : (s.enterFaulted r).flags = s.settleTake.flags := rfl
@[simp] theorem State.enterFaulted_queue (s : State) (r : Reason) : (s.enterFaulted r).queue = s.settleTake.queue := rfl
@[simp] theorem State.enterFaulted_presence (s : State) (r : Reason) :
    (s.enterFaulted r).presence = s.settleTake.presence := rfl

@[simp] theorem State.enterOffline_resetHeld (s : State) (r : Reason) : (s.enterOffline r).resetHeld = s.resetHeld := s.settleTake_resetHeld
@[simp] theorem State.enterOffline_host (s : State) (r : Reason) : (s.enterOffline r).host = s.host := s.settleTake_host
@[simp] theorem State.enterOffline_time (s : State) (r : Reason) : (s.enterOffline r).time = s.time := s.settleTake_time
@[simp] theorem State.enterOffline_pending (s : State) (r : Reason) : (s.enterOffline r).pending = s.pending := s.settleTake_pending
@[simp] theorem State.enterOffline_flags (s : State) (r : Reason) : (s.enterOffline r).flags = s.settleTake.flags := rfl
@[simp] theorem State.enterOffline_queue (s : State) (r : Reason) : (s.enterOffline r).queue = s.settleTake.queue := rfl

/-- After entry to FAULTED no context is open, and the stream records are as before (R126). -/
theorem ReceiveUnit.faulted_spec (r : ReceiveUnit) :
    (∀ i : Fin 12, r.faulted.contexts[i] = none) ∧ r.faulted.streams = r.streams ∧
      ∀ q : Fin 16, r.faulted.bufferCount q = r.bufferCount q := by
  obtain ⟨h1, h2, h3, -⟩ := r.abandonAll_spec .offline fun _ => true
  exact ⟨fun i => by rw [ReceiveUnit.faulted, h1 i]; cases r.contexts[i] <;> simp [Option.filter], h2, h3⟩

/-- The drain test leaves a state alone or enters OFFLINE with reason DRAINED from LEAVING (R26). -/
theorem State.drainTest_cases (s : State) :
    s.drainTest = s ∧ (s.ctl.participation ≠ .leaving ∨ s.drained = false) ∨
      s.drainTest = s.enterOffline .drained ∧ s.ctl.participation = .leaving ∧ s.drained = true := by
  unfold State.drainTest
  split
  · rename_i h; exact .inr ⟨rfl, h⟩
  · rename_i h
    refine .inl ⟨rfl, ?_⟩
    by_cases hp : s.ctl.participation = .leaving
    · right; cases hd : s.drained with
      | false => rfl
      | true => exact absurd ⟨hp, hd⟩ h
    · exact .inl hp

end Sys2Proof.Machine
end

