-- ==== Sys2Proof/Laws/Events.lean ====
section
/-! SUPPORT. How a command runs: events while reset is held and not (R19, log 6), host accesses (R159), and the take of a
command of the slot (R166). -/

namespace Sys2Proof.Machine

/-- An event with reset not held acts. -/
theorem event_running {s : State} (h : s.resetHeld = false) (f : State → State) : event s f = .next (f s) := by
  simp [event, h]

/-- An event while reset is held does nothing (R19). -/
theorem event_held {s : State} (h : s.resetHeld = true) (f : State → State) : event s f = .next s := by
  simp [event, h]

/-- Everything an event can do: it answers a next state. -/
theorem event_next {s t : State} {f : State → State} (h : event s f = .next t) :
    s.resetHeld = true ∧ t = s ∨ s.resetHeld = false ∧ t = f s := by
  cases hr : s.resetHeld with
  | true => rw [event_held hr] at h; injection h with h; exact .inl ⟨rfl, h.symm⟩
  | false => rw [event_running hr] at h; injection h with h; exact .inr ⟨rfl, h.symm⟩

/-- An event whose accesses succeed acts. -/
theorem eventWithAccess_ok {s t : State} {f : State → Except Fault State} (h : s.resetHeld = false) (hf : f s = .ok t) :
    eventWithAccess s f = .next t := by simp [eventWithAccess, h, hf]

/-- Everything an event with accesses can do when it answers a next state. -/
theorem eventWithAccess_next {s t : State} {f : State → Except Fault State} (h : eventWithAccess s f = .next t) :
    s.resetHeld = true ∧ t = s ∨ s.resetHeld = false ∧ f s = .ok t := by
  unfold eventWithAccess at h
  split at h
  · rename_i hr; injection h with h; exact .inl ⟨hr, h.symm⟩
  · rename_i hr
    split at h
    · rename_i u hu; injection h with h; subst h; exact .inr ⟨by simpa using hr, hu⟩
    · simp at h

/-! ### Host accesses (R159) -/

/-- On a free path the end of a strobe only ends the driving of data. -/
theorem State.strobeEnds_free {s : State} (h : s.hostPathFree = true) :
    s.strobeEnds = { s with host := { s.host with dataOut := none } } := by
  have hc : s.host.claims = [] := by
    simp only [State.hostPathFree, Bool.and_eq_true, List.isEmpty_iff] at h; exact h.2
  simp [State.strobeEnds, hc]

@[simp] theorem State.strobeEnds_hostPathFree (s : State) : s.strobeEnds.hostPathFree = s.hostPathFree := by
  simp [State.strobeEnds, State.hostPathFree]

/-- A host access that finds the path free is served at once. -/
theorem State.hostAccess_free {s : State} (h : s.hostPathFree = true) (c : HostClaim) :
    s.hostAccess c = ({ s with host := { s.host with dataOut := none } } : State).serveHost c := by
  rw [← State.strobeEnds_free h]; simp [State.hostAccess, h]

/-- Any other host access waits behind those before it, which are then abandoned. -/
theorem State.hostAccess_waits {s : State} (h : s.hostPathFree = false) (c : HostClaim) :
    s.hostAccess c = { s with host := { s.host with
      dataOut := none, claims := s.host.claims.map HostClaim.abandoned ++ [c] } } := by
  rw [State.hostAccess, if_neg (by simp [h])]; rfl

/-! ### Takes of commands (R166) -/

/-- The take of a waiting command (R166): it is carried out, and the slot is completed. -/
theorem takeCommand_waiting {s : State} {named : BitVec 8 → Bool} (h : s.resetHeld = false)
    (ho : s.host.owner = .station) (hc : named s.host.code = true) (f : State → State × CommandResult) :
    takeCommand s named f = .next ((f s).1.completed (f s).2).fill := by
  rw [takeCommand, event_running h, if_pos ⟨ho, hc⟩]; rfl

/-- With no command of the code waiting there is no take (log 16). -/
theorem takeCommand_none {s : State} {named : BitVec 8 → Bool}
    (h : s.host.owner = .host ∨ named s.host.code = false) (f : State → State × CommandResult) :
    takeCommand s named f = .next s := by
  have hn : ¬(s.host.owner = .station ∧ named s.host.code = true) := by
    rintro ⟨h1, h2⟩
    rcases h with h | h
    · rw [h] at h1; simp at h1
    · rw [h] at h2; simp at h2
  simp [takeCommand, event, hn]

/-- Everything the take of a command can do. -/
theorem takeCommand_next {s t : State} {named : BitVec 8 → Bool} {f : State → State × CommandResult}
    (h : takeCommand s named f = .next t) :
    t = s ∨ s.resetHeld = false ∧ s.host.owner = .station ∧ named s.host.code = true ∧
      t = ((f s).1.completed (f s).2).fill := by
  rcases event_next h with ⟨-, rfl⟩ | ⟨hr, ht⟩
  · exact .inl rfl
  · split at ht
    · rename_i hc; exact .inr ⟨hr, hc.1, hc.2, ht⟩
    · exact .inl ht

end Sys2Proof.Machine
end

