-- ==== Sys2Proof/Laws/Deliveries.lean ====
section
/-! SUPPORT. A delivery on its way to its block (R18, R52), and the receive unit's store (R119). -/

namespace Sys2Proof.Machine

/-! ### Frame ends -/

@[simp] theorem State.atFrameEnd_resetHeld (s : State) : s.atFrameEnd.resetHeld = s.resetHeld := s.settleTake_resetHeld
@[simp] theorem State.atFrameEnd_sched (s : State) : s.atFrameEnd.sched = s.sched := s.settleTake_sched
@[simp] theorem State.atFrameEnd_host (s : State) : s.atFrameEnd.host = s.host := s.settleTake_host
@[simp] theorem State.atFrameEnd_time (s : State) : s.atFrameEnd.time = s.time := s.settleTake_time
@[simp] theorem State.atFrameEnd_pending (s : State) : s.atFrameEnd.pending = s.pending := s.settleTake_pending
@[simp] theorem State.atFrameEnd_lanes (s : State) : s.atFrameEnd.lanes = s.settleTake.lanes := rfl
@[simp] theorem State.atFrameEnd_flags (s : State) : s.atFrameEnd.flags = s.settleTake.flags := rfl
@[simp] theorem State.atFrameEnd_recv (s : State) : s.atFrameEnd.recv = s.settleTake.recv := rfl
@[simp] theorem State.atFrameEnd_windows (s : State) : s.atFrameEnd.windows = s.settleTake.windows := rfl
@[simp] theorem State.atFrameEnd_presence (s : State) : s.atFrameEnd.presence = s.settleTake.presence := rfl
@[simp] theorem State.atFrameEnd_queue (s : State) : s.atFrameEnd.queue = s.settleTake.queue := rfl
@[simp] theorem State.atFrameEnd_mem (s : State) : s.atFrameEnd.mem = s.settleTake.mem := rfl

/-! ### From the frame end to the judgement -/

/-- What the presence table does to the receive unit: nothing, or the purge of the sender (R125, R142). -/
theorem State.presenceTakes_recv (s : State) (h : Header) :
    (s.presenceTakes h).recv = s.recv ∨ (s.presenceTakes h).recv = s.recv.purgeOrder h.source := by
  unfold State.presenceTakes
  split
  · by_cases hr : s.presence.records[h.source].restarted h.epoch = true
    · right; simp only [hr, if_true]
    · left; simp only [hr]; rfl
  · exact .inl rfl

/-- The presence table changes only itself and the receive unit (R18). -/
theorem State.presenceTakes_eq (s : State) (h : Header) :
    s.presenceTakes h = { s with presence := (s.presenceTakes h).presence, recv := (s.presenceTakes h).recv } := by
  unfold State.presenceTakes
  split <;> rfl

/-- Before the judgement, once the take before the delivery is complete, only the line, the station controller, the
presence table and the receive unit change. -/
theorem State.afterHeader_eq (s : State) (ws : List Word) :
    s.afterHeader ws = { s.settleTake with
      line := s.line.frameEnds
      ctl := s.settleTake.ctl.activity.takeHeader (s.incoming ws).frameClass (s.incoming ws).header
      presence := (s.afterHeader ws).presence
      recv := (s.afterHeader ws).recv } :=
  State.presenceTakes_eq
    { s.atFrameEnd with
      ctl := s.atFrameEnd.ctl.takeHeader (s.incoming ws).frameClass (s.incoming ws).header } (s.incoming ws).header

theorem State.afterHeader_ctl (s : State) (ws : List Word) :
    (s.afterHeader ws).ctl = s.settleTake.ctl.activity.takeHeader (s.incoming ws).frameClass (s.incoming ws).header := by
  rw [State.afterHeader_eq]

@[simp] theorem State.afterHeader_number (s : State) (ws : List Word) :
    (s.afterHeader ws).ctl.number = s.ctl.number := by
  rw [State.afterHeader_ctl]; unfold StationController.takeHeader
  split
  · simp [StationController.gainSync_eq, StationController.activity]
  · split <;> simp [StationController.gainSync_eq, StationController.activity]

@[simp] theorem State.afterHeader_count (s : State) (ws : List Word) : (s.afterHeader ws).ctl.count = s.ctl.count := by
  rw [State.afterHeader_ctl]; unfold StationController.takeHeader
  split
  · simp [StationController.gainSync_eq, StationController.activity]
  · split <;> simp [StationController.gainSync_eq, StationController.activity]

@[simp] theorem State.afterHeader_mem (s : State) (ws : List Word) : (s.afterHeader ws).mem = s.finishTake.mem := by
  rw [State.afterHeader_eq]; exact s.settleTake_mem
@[simp] theorem State.afterHeader_windows (s : State) (ws : List Word) : (s.afterHeader ws).windows = s.settleTake.windows := by
  rw [State.afterHeader_eq]
@[simp] theorem State.afterHeader_flags (s : State) (ws : List Word) : (s.afterHeader ws).flags = s.settleTake.flags := by
  rw [State.afterHeader_eq]
@[simp] theorem State.afterHeader_sched (s : State) (ws : List Word) : (s.afterHeader ws).sched = s.sched := by
  rw [State.afterHeader_eq]; exact s.settleTake_sched
@[simp] theorem State.afterHeader_lanes (s : State) (ws : List Word) : (s.afterHeader ws).lanes = s.settleTake.lanes := by
  rw [State.afterHeader_eq]

/-- A purge keeps every port's open mark, posted buffers and buffer count (R125). -/
theorem ReceiveUnit.purgeOrder_spec (r : ReceiveUnit) (p : Fin 32) :
    (∀ i : Fin 12, (r.purgeOrder p).contexts[i] = r.contexts[i].filter fun c => !(c.source == p)) ∧
    (∀ q : Fin 16, (r.purgeOrder p).ports[q].isOpen = r.ports[q].isOpen ∧
      (r.purgeOrder p).ports[q].posted = r.ports[q].posted) ∧
    ∀ q : Fin 16, (r.purgeOrder p).bufferCount q = r.bufferCount q := by
  unfold ReceiveUnit.purgeOrder
  have h := r.abandonAll_spec .peerRestarted fun c => c.source == p
  refine ⟨fun i => ?_, fun q => ?_, fun q => ?_⟩
  · rw [ReceiveUnit.clearStreams_contexts]; exact h.1 i
  rotate_left
  · rw [ReceiveUnit.clearStreams_bufferCount]; exact h.2.2.1 q
  rw [ReceiveUnit.clearStreams_ports]
  have h4 := h.2.2.2 q
  exact ⟨h4.1, h4.2.1⟩

@[simp] theorem State.afterHeader_isOpen (s : State) (ws : List Word) (q : Fin 16) :
    (s.afterHeader ws).recv.ports[q].isOpen = s.recv.ports[q].isOpen := by
  unfold State.afterHeader
  rcases State.presenceTakes_recv
    { s.atFrameEnd with
      ctl := s.atFrameEnd.ctl.takeHeader (s.incoming ws).frameClass (s.incoming ws).header }
    (s.incoming ws).header with h | h <;> rw [h]
  · exact s.settleTake_isOpen q
  · exact ((ReceiveUnit.purgeOrder_spec _ _).2.1 q).1.trans (s.settleTake_isOpen q)

/-- A delivery with a valid header at an ACTIVE or LEAVING station is judged, its take is served and the queue fills. -/
theorem exec_frameDelivery_judged {s t : State} {f : FrameEnd} (h : s.delivers f.words)
    (ht : (s.afterHeader f.words).judge (s.incoming f.words) = .ok t) :
    exec (.frameDelivery f) s = .next (t.servesTake f.pause).fill := by
  obtain ⟨h0, h1, h2, h3, h4⟩ := h
  have hi : s.line.takingIn = true := by simp [LineInterface.takingIn, h1, h2]
  have ho : s.atFrameEnd.onLine = true := by
    simp only [State.onLine, State.atFrameEnd, StationController.activity, State.settleTake_participation]
    exact h3
  have hg : (delivery s.line.rxClass s.time f.words).headerGood = true := h4
  show execFrameDelivery f s = _
  unfold execFrameDelivery
  refine eventWithAccess_ok h0 ?_
  have hd : s.atFrameEnd.deliver (delivery s.line.rxClass s.time f.words) = .ok t := by
    simp only [State.deliver, ho, hg, Bool.not_true, Bool.false_eq_true, if_false]
    exact ht
  have hl : ({ s.settleTake with
      line := s.settleTake.line.frameEnds, ctl := s.settleTake.ctl.activity } : State) = s.atFrameEnd := by
    simp only [State.atFrameEnd, State.settleTake_line, State.finishTake_frameEnds]
  simp only [State.frameDelivered, hi, if_true, hl]
  have hc : (s.settleTake).line.rxClass = s.line.rxClass := by rw [State.settleTake_line, State.finishTake_line]
  rw [hc, State.settleTake_time, hd]

/-- A state with no take in progress is not touched by the accesses of one. -/
theorem State.servesTake_none {s : State} (h : s.mem.take = none) (pause : Option Nat) : s.servesTake pause = s := by
  have : ∀ n, State.lineAccesses n s = s := by
    intro n
    induction n with
    | zero => rfl
    | succ n ih =>
      have h1 : s.lineAccess = s := by simp [State.lineAccess, h]
      rw [State.lineAccesses, h1, ih]
  cases pause with
  | none => exact State.finishTake_none h
  | some k => exact this k

/-- A delivery that reaches its block is handed to it (R52). -/
theorem State.judge_of_reachesBlock {s : State} {ws : List Word} (h : s.reachesBlock ws) :
    (s.afterHeader ws).judge (s.incoming ws) = (s.afterHeader ws).handOn (s.incoming ws) := by
  obtain ⟨-, h1, h2, h3, -⟩ := h
  simp only [State.judge, h1, State.afterHeader_number, State.afterHeader_count, h2, h3, Bool.not_true,
    Bool.false_eq_true, if_false]

/-! ### The store of a segment (R119) -/

/-- The last segment completes the context: its completion entry, its stream record, its entry free. -/
theorem ReceiveUnit.afterStore_last (r : ReceiveUnit) (i : Fin 12) (c : Context) (h : c.next = segmentCount c.length) :
    r.afterStore i c =
      ((r.complete c.port (c.completion .complete c.length)).setStream c.source c.lane
        { epoch := c.epoch, lastCompleted := c.message }).setContext i none := if_pos h

/-- Any other segment keeps the context open. -/
theorem ReceiveUnit.afterStore_more (r : ReceiveUnit) (i : Fin 12) (c : Context) (h : c.next ≠ segmentCount c.length) :
    r.afterStore i c = r.setContext i (some c) := if_neg h

/-- Everything the beginning of a segment store can do: nothing is stored yet. -/
theorem State.storeSegment_ok {s t : State} {i : Fin 12} {c : Context} {payload : List Word} {opens : Bool}
    (h : s.storeSegment i c payload opens = .ok t) :
    c.buffer.address + 32 * c.next + payload.length ≤ Config.memoryWords ∧
      t = { s with mem := { s.mem with
        take := some ⟨c.buffer.address + 32 * c.next, .store payload (.segment i (c.stored32 payload) opens), false⟩ } } :=
  State.beginTake_ok h

/-- What the receive unit is after the store of a segment of an open context. -/
theorem ReceiveUnit.segmentStored_more (r : ReceiveUnit) (i : Fin 12) (c : Context) :
    r.segmentStored i c false = r.afterStore i c := rfl

/-- What the receive unit is after the store of the first segment of a message. -/
theorem ReceiveUnit.segmentStored_opens (r : ReceiveUnit) (i : Fin 12) (c : Context) :
    r.segmentStored i c true = (r.takeHead c.port).afterStore i c := rfl

/-- The head buffer leaves its port's posted queue, and nothing else changes. -/
theorem ReceiveUnit.takeHead_ports (r : ReceiveUnit) (p q : Fin 16) :
    (r.takeHead p).ports[q] = if q = p then { r.ports[p] with posted := r.ports[p].posted.tail } else r.ports[q] :=
  r.ports_updatePort_get p q _

end Sys2Proof.Machine
end

