-- ==== Sys2Proof/Laws/Lanes.lean ====
section
/-! SUPPORT. What each move of a lane does to each field of the lane, and to what the lane's copy says. -/

namespace Sys2Proof.Machine

/-! ### finish -/

@[simp] theorem Lane.finish_state (l : Lane) (st : Status) : (l.finish st).state = .working := rfl
@[simp] theorem Lane.finish_job (l : Lane) (st : Status) : (l.finish st).job = .writeProgress st := rfl
@[simp] theorem Lane.finish_address (l : Lane) (st : Status) : (l.finish st).address = l.address := rfl
@[simp] theorem Lane.finish_copy (l : Lane) (st : Status) : (l.finish st).copy = l.copy := rfl
@[simp] theorem Lane.finish_messageCounter (l : Lane) (st : Status) : (l.finish st).messageCounter = l.messageCounter := rfl
@[simp] theorem Lane.finish_messageNumber (l : Lane) (st : Status) : (l.finish st).messageNumber = l.messageNumber := rfl
@[simp] theorem Lane.finish_segment (l : Lane) (st : Status) : (l.finish st).segment = l.segment := rfl
@[simp] theorem Lane.finish_patience (l : Lane) (st : Status) : (l.finish st).patience = l.patience := rfl
@[simp] theorem Lane.finish_retries (l : Lane) (st : Status) : (l.finish st).retries = l.retries := rfl
@[simp] theorem Lane.finish_unanswered (l : Lane) (st : Status) : (l.finish st).unanswered = l.unanswered := rfl
@[simp] theorem Lane.finish_lastReply (l : Lane) (st : Status) : (l.finish st).lastReply = l.lastReply := rfl
@[simp] theorem Lane.finish_frame (l : Lane) (st : Status) : (l.finish st).frame = none := rfl
@[simp] theorem Lane.finish_hold (l : Lane) (st : Status) : (l.finish st).hold = none := rfl
@[simp] theorem Lane.finish_wait (l : Lane) (st : Status) : (l.finish st).wait = l.wait := rfl
@[simp] theorem Lane.finish_stopMark (l : Lane) (st : Status) : (l.finish st).stopMark = l.stopMark := rfl
@[simp] theorem Lane.finish_cancelOwed (l : Lane) (st : Status) : (l.finish st).cancelOwed = l.cancelOwed := rfl
@[simp] theorem Lane.finish_pendingStatus (l : Lane) (st : Status) : (l.finish st).pendingStatus = l.pendingStatus := rfl
@[simp] theorem Lane.finish_heldEvent (l : Lane) (st : Status) : (l.finish st).heldEvent = l.heldEvent := rfl
@[simp] theorem Lane.finish_lineWork (l : Lane) (st : Status) : (l.finish st).lineWork = l.lineWork := rfl
@[simp] theorem Lane.finish_validated (l : Lane) (st : Status) : (l.finish st).validated = l.validated := rfl
@[simp] theorem Lane.finish_expiryHanded (l : Lane) (st : Status) : (l.finish st).expiryHanded = l.expiryHanded := rfl
@[simp] theorem Lane.finish_removalHanded (l : Lane) (st : Status) : (l.finish st).removalHanded = l.removalHanded := rfl
@[simp] theorem Lane.finish_kind (l : Lane) (st : Status) : (l.finish st).kind = l.kind := rfl
@[simp] theorem Lane.finish_notify (l : Lane) (st : Status) : (l.finish st).notify = l.notify := rfl
@[simp] theorem Lane.finish_continueOnFailure (l : Lane) (st : Status) : (l.finish st).continueOnFailure = l.continueOnFailure := rfl
@[simp] theorem Lane.finish_stopAfter (l : Lane) (st : Status) : (l.finish st).stopAfter = l.stopAfter := rfl
@[simp] theorem Lane.finish_next (l : Lane) (st : Status) : (l.finish st).next = l.next := rfl
@[simp] theorem Lane.finish_destination (l : Lane) (st : Status) : (l.finish st).destination = l.destination := rfl
@[simp] theorem Lane.finish_port (l : Lane) (st : Status) : (l.finish st).port = l.port := rfl
@[simp] theorem Lane.finish_patienceField (l : Lane) (st : Status) : (l.finish st).patienceField = l.patienceField := rfl
@[simp] theorem Lane.finish_window (l : Lane) (st : Status) : (l.finish st).window = l.window := rfl
@[simp] theorem Lane.finish_all (l : Lane) (st : Status) : (l.finish st).all = l.all := rfl
@[simp] theorem Lane.finish_flag (l : Lane) (st : Status) : (l.finish st).flag = l.flag := rfl
@[simp] theorem Lane.finish_consume (l : Lane) (st : Status) : (l.finish st).consume = l.consume := rfl
@[simp] theorem Lane.finish_setsFlag (l : Lane) (st : Status) : (l.finish st).setsFlag = l.setsFlag := rfl
@[simp] theorem Lane.finish_tag (l : Lane) (st : Status) : (l.finish st).tag = l.tag := rfl
@[simp] theorem Lane.finish_bufferAddress (l : Lane) (st : Status) : (l.finish st).bufferAddress = l.bufferAddress := rfl
@[simp] theorem Lane.finish_timeLimit (l : Lane) (st : Status) : (l.finish st).timeLimit = l.timeLimit := rfl
@[simp] theorem Lane.finish_length (l : Lane) (st : Status) : (l.finish st).length = l.length := rfl
@[simp] theorem Lane.finish_alternate (l : Lane) (st : Status) : (l.finish st).alternate = l.alternate := rfl
@[simp] theorem Lane.finish_remoteOffset (l : Lane) (st : Status) : (l.finish st).remoteOffset = l.remoteOffset := rfl
@[simp] theorem Lane.finish_lineDescriptor (l : Lane) (st : Status) : (l.finish st).lineDescriptor = l.lineDescriptor := rfl

/-! ### offer -/

@[simp] theorem Lane.offer_state (l : Lane) (f : PreparedFrame) : (l.offer f).state = .queued := rfl
@[simp] theorem Lane.offer_job (l : Lane) (f : PreparedFrame) : (l.offer f).job = .none := rfl
@[simp] theorem Lane.offer_address (l : Lane) (f : PreparedFrame) : (l.offer f).address = l.address := rfl
@[simp] theorem Lane.offer_copy (l : Lane) (f : PreparedFrame) : (l.offer f).copy = l.copy := rfl
@[simp] theorem Lane.offer_messageCounter (l : Lane) (f : PreparedFrame) : (l.offer f).messageCounter = l.messageCounter := rfl
@[simp] theorem Lane.offer_messageNumber (l : Lane) (f : PreparedFrame) : (l.offer f).messageNumber = l.messageNumber := rfl
@[simp] theorem Lane.offer_segment (l : Lane) (f : PreparedFrame) : (l.offer f).segment = l.segment := rfl
@[simp] theorem Lane.offer_patience (l : Lane) (f : PreparedFrame) : (l.offer f).patience = l.patience := rfl
@[simp] theorem Lane.offer_retries (l : Lane) (f : PreparedFrame) : (l.offer f).retries = l.retries := rfl
@[simp] theorem Lane.offer_unanswered (l : Lane) (f : PreparedFrame) : (l.offer f).unanswered = l.unanswered := rfl
@[simp] theorem Lane.offer_lastReply (l : Lane) (f : PreparedFrame) : (l.offer f).lastReply = l.lastReply := rfl
@[simp] theorem Lane.offer_frame (l : Lane) (f : PreparedFrame) : (l.offer f).frame = some f := rfl
@[simp] theorem Lane.offer_hold (l : Lane) (f : PreparedFrame) : (l.offer f).hold = none := rfl
@[simp] theorem Lane.offer_wait (l : Lane) (f : PreparedFrame) : (l.offer f).wait = l.wait := rfl
@[simp] theorem Lane.offer_stopMark (l : Lane) (f : PreparedFrame) : (l.offer f).stopMark = l.stopMark := rfl
@[simp] theorem Lane.offer_cancelOwed (l : Lane) (f : PreparedFrame) : (l.offer f).cancelOwed = l.cancelOwed := rfl
@[simp] theorem Lane.offer_pendingStatus (l : Lane) (f : PreparedFrame) : (l.offer f).pendingStatus = l.pendingStatus := rfl
@[simp] theorem Lane.offer_heldEvent (l : Lane) (f : PreparedFrame) : (l.offer f).heldEvent = l.heldEvent := rfl
@[simp] theorem Lane.offer_lineWork (l : Lane) (f : PreparedFrame) : (l.offer f).lineWork = l.lineWork := rfl
@[simp] theorem Lane.offer_validated (l : Lane) (f : PreparedFrame) : (l.offer f).validated = l.validated := rfl
@[simp] theorem Lane.offer_expiryHanded (l : Lane) (f : PreparedFrame) : (l.offer f).expiryHanded = l.expiryHanded := rfl
@[simp] theorem Lane.offer_removalHanded (l : Lane) (f : PreparedFrame) : (l.offer f).removalHanded = l.removalHanded := rfl
@[simp] theorem Lane.offer_kind (l : Lane) (f : PreparedFrame) : (l.offer f).kind = l.kind := rfl
@[simp] theorem Lane.offer_notify (l : Lane) (f : PreparedFrame) : (l.offer f).notify = l.notify := rfl
@[simp] theorem Lane.offer_continueOnFailure (l : Lane) (f : PreparedFrame) : (l.offer f).continueOnFailure = l.continueOnFailure := rfl
@[simp] theorem Lane.offer_stopAfter (l : Lane) (f : PreparedFrame) : (l.offer f).stopAfter = l.stopAfter := rfl
@[simp] theorem Lane.offer_next (l : Lane) (f : PreparedFrame) : (l.offer f).next = l.next := rfl
@[simp] theorem Lane.offer_destination (l : Lane) (f : PreparedFrame) : (l.offer f).destination = l.destination := rfl
@[simp] theorem Lane.offer_port (l : Lane) (f : PreparedFrame) : (l.offer f).port = l.port := rfl
@[simp] theorem Lane.offer_patienceField (l : Lane) (f : PreparedFrame) : (l.offer f).patienceField = l.patienceField := rfl
@[simp] theorem Lane.offer_window (l : Lane) (f : PreparedFrame) : (l.offer f).window = l.window := rfl
@[simp] theorem Lane.offer_all (l : Lane) (f : PreparedFrame) : (l.offer f).all = l.all := rfl
@[simp] theorem Lane.offer_flag (l : Lane) (f : PreparedFrame) : (l.offer f).flag = l.flag := rfl
@[simp] theorem Lane.offer_consume (l : Lane) (f : PreparedFrame) : (l.offer f).consume = l.consume := rfl
@[simp] theorem Lane.offer_setsFlag (l : Lane) (f : PreparedFrame) : (l.offer f).setsFlag = l.setsFlag := rfl
@[simp] theorem Lane.offer_tag (l : Lane) (f : PreparedFrame) : (l.offer f).tag = l.tag := rfl
@[simp] theorem Lane.offer_bufferAddress (l : Lane) (f : PreparedFrame) : (l.offer f).bufferAddress = l.bufferAddress := rfl
@[simp] theorem Lane.offer_timeLimit (l : Lane) (f : PreparedFrame) : (l.offer f).timeLimit = l.timeLimit := rfl
@[simp] theorem Lane.offer_length (l : Lane) (f : PreparedFrame) : (l.offer f).length = l.length := rfl
@[simp] theorem Lane.offer_alternate (l : Lane) (f : PreparedFrame) : (l.offer f).alternate = l.alternate := rfl
@[simp] theorem Lane.offer_remoteOffset (l : Lane) (f : PreparedFrame) : (l.offer f).remoteOffset = l.remoteOffset := rfl
@[simp] theorem Lane.offer_lineDescriptor (l : Lane) (f : PreparedFrame) : (l.offer f).lineDescriptor = l.lineDescriptor := rfl

/-! ### requeue -/

@[simp] theorem Lane.requeue_state (l : Lane) : (l.requeue).state = .queued := rfl
@[simp] theorem Lane.requeue_job (l : Lane) : (l.requeue).job = .none := rfl
@[simp] theorem Lane.requeue_address (l : Lane) : (l.requeue).address = l.address := rfl
@[simp] theorem Lane.requeue_copy (l : Lane) : (l.requeue).copy = l.copy := rfl
@[simp] theorem Lane.requeue_messageCounter (l : Lane) : (l.requeue).messageCounter = l.messageCounter := rfl
@[simp] theorem Lane.requeue_messageNumber (l : Lane) : (l.requeue).messageNumber = l.messageNumber := rfl
@[simp] theorem Lane.requeue_segment (l : Lane) : (l.requeue).segment = l.segment := rfl
@[simp] theorem Lane.requeue_patience (l : Lane) : (l.requeue).patience = l.patience := rfl
@[simp] theorem Lane.requeue_retries (l : Lane) : (l.requeue).retries = l.retries := rfl
@[simp] theorem Lane.requeue_unanswered (l : Lane) : (l.requeue).unanswered = l.unanswered := rfl
@[simp] theorem Lane.requeue_lastReply (l : Lane) : (l.requeue).lastReply = l.lastReply := rfl
@[simp] theorem Lane.requeue_frame (l : Lane) : (l.requeue).frame = l.frame := rfl
@[simp] theorem Lane.requeue_hold (l : Lane) : (l.requeue).hold = none := rfl
@[simp] theorem Lane.requeue_wait (l : Lane) : (l.requeue).wait = l.wait := rfl
@[simp] theorem Lane.requeue_stopMark (l : Lane) : (l.requeue).stopMark = l.stopMark := rfl
@[simp] theorem Lane.requeue_cancelOwed (l : Lane) : (l.requeue).cancelOwed = l.cancelOwed := rfl
@[simp] theorem Lane.requeue_pendingStatus (l : Lane) : (l.requeue).pendingStatus = l.pendingStatus := rfl
@[simp] theorem Lane.requeue_heldEvent (l : Lane) : (l.requeue).heldEvent = l.heldEvent := rfl
@[simp] theorem Lane.requeue_lineWork (l : Lane) : (l.requeue).lineWork = l.lineWork := rfl
@[simp] theorem Lane.requeue_validated (l : Lane) : (l.requeue).validated = l.validated := rfl
@[simp] theorem Lane.requeue_expiryHanded (l : Lane) : (l.requeue).expiryHanded = l.expiryHanded := rfl
@[simp] theorem Lane.requeue_removalHanded (l : Lane) : (l.requeue).removalHanded = l.removalHanded := rfl
@[simp] theorem Lane.requeue_kind (l : Lane) : (l.requeue).kind = l.kind := rfl
@[simp] theorem Lane.requeue_notify (l : Lane) : (l.requeue).notify = l.notify := rfl
@[simp] theorem Lane.requeue_continueOnFailure (l : Lane) : (l.requeue).continueOnFailure = l.continueOnFailure := rfl
@[simp] theorem Lane.requeue_stopAfter (l : Lane) : (l.requeue).stopAfter = l.stopAfter := rfl
@[simp] theorem Lane.requeue_next (l : Lane) : (l.requeue).next = l.next := rfl
@[simp] theorem Lane.requeue_destination (l : Lane) : (l.requeue).destination = l.destination := rfl
@[simp] theorem Lane.requeue_port (l : Lane) : (l.requeue).port = l.port := rfl
@[simp] theorem Lane.requeue_patienceField (l : Lane) : (l.requeue).patienceField = l.patienceField := rfl
@[simp] theorem Lane.requeue_window (l : Lane) : (l.requeue).window = l.window := rfl
@[simp] theorem Lane.requeue_all (l : Lane) : (l.requeue).all = l.all := rfl
@[simp] theorem Lane.requeue_flag (l : Lane) : (l.requeue).flag = l.flag := rfl
@[simp] theorem Lane.requeue_consume (l : Lane) : (l.requeue).consume = l.consume := rfl
@[simp] theorem Lane.requeue_setsFlag (l : Lane) : (l.requeue).setsFlag = l.setsFlag := rfl
@[simp] theorem Lane.requeue_tag (l : Lane) : (l.requeue).tag = l.tag := rfl
@[simp] theorem Lane.requeue_bufferAddress (l : Lane) : (l.requeue).bufferAddress = l.bufferAddress := rfl
@[simp] theorem Lane.requeue_timeLimit (l : Lane) : (l.requeue).timeLimit = l.timeLimit := rfl
@[simp] theorem Lane.requeue_length (l : Lane) : (l.requeue).length = l.length := rfl
@[simp] theorem Lane.requeue_alternate (l : Lane) : (l.requeue).alternate = l.alternate := rfl
@[simp] theorem Lane.requeue_remoteOffset (l : Lane) : (l.requeue).remoteOffset = l.remoteOffset := rfl
@[simp] theorem Lane.requeue_lineDescriptor (l : Lane) : (l.requeue).lineDescriptor = l.lineDescriptor := rfl

/-! ### oweCancel -/

@[simp] theorem Lane.oweCancel_state (l : Lane) (st : Status) : (l.oweCancel st).state = .cancelling := rfl
@[simp] theorem Lane.oweCancel_job (l : Lane) (st : Status) : (l.oweCancel st).job = .none := rfl
@[simp] theorem Lane.oweCancel_address (l : Lane) (st : Status) : (l.oweCancel st).address = l.address := rfl
@[simp] theorem Lane.oweCancel_copy (l : Lane) (st : Status) : (l.oweCancel st).copy = l.copy := rfl
@[simp] theorem Lane.oweCancel_messageCounter (l : Lane) (st : Status) : (l.oweCancel st).messageCounter = l.messageCounter := rfl
@[simp] theorem Lane.oweCancel_messageNumber (l : Lane) (st : Status) : (l.oweCancel st).messageNumber = l.messageNumber := rfl
@[simp] theorem Lane.oweCancel_segment (l : Lane) (st : Status) : (l.oweCancel st).segment = l.segment := rfl
@[simp] theorem Lane.oweCancel_patience (l : Lane) (st : Status) : (l.oweCancel st).patience = l.patience := rfl
@[simp] theorem Lane.oweCancel_retries (l : Lane) (st : Status) : (l.oweCancel st).retries = l.retries := rfl
@[simp] theorem Lane.oweCancel_unanswered (l : Lane) (st : Status) : (l.oweCancel st).unanswered = l.unanswered := rfl
@[simp] theorem Lane.oweCancel_lastReply (l : Lane) (st : Status) : (l.oweCancel st).lastReply = l.lastReply := rfl
@[simp] theorem Lane.oweCancel_frame (l : Lane) (st : Status) : (l.oweCancel st).frame = some l.cancelFrame := rfl
@[simp] theorem Lane.oweCancel_hold (l : Lane) (st : Status) : (l.oweCancel st).hold = none := rfl
@[simp] theorem Lane.oweCancel_wait (l : Lane) (st : Status) : (l.oweCancel st).wait = l.wait := rfl
@[simp] theorem Lane.oweCancel_stopMark (l : Lane) (st : Status) : (l.oweCancel st).stopMark = l.stopMark := rfl
@[simp] theorem Lane.oweCancel_cancelOwed (l : Lane) (st : Status) : (l.oweCancel st).cancelOwed = true := rfl
@[simp] theorem Lane.oweCancel_pendingStatus (l : Lane) (st : Status) : (l.oweCancel st).pendingStatus = some st := rfl
@[simp] theorem Lane.oweCancel_heldEvent (l : Lane) (st : Status) : (l.oweCancel st).heldEvent = l.heldEvent := rfl
@[simp] theorem Lane.oweCancel_lineWork (l : Lane) (st : Status) : (l.oweCancel st).lineWork = l.lineWork := rfl
@[simp] theorem Lane.oweCancel_validated (l : Lane) (st : Status) : (l.oweCancel st).validated = l.validated := rfl
@[simp] theorem Lane.oweCancel_expiryHanded (l : Lane) (st : Status) : (l.oweCancel st).expiryHanded = l.expiryHanded := rfl
@[simp] theorem Lane.oweCancel_removalHanded (l : Lane) (st : Status) : (l.oweCancel st).removalHanded = l.removalHanded := rfl
@[simp] theorem Lane.oweCancel_kind (l : Lane) (st : Status) : (l.oweCancel st).kind = l.kind := rfl
@[simp] theorem Lane.oweCancel_notify (l : Lane) (st : Status) : (l.oweCancel st).notify = l.notify := rfl
@[simp] theorem Lane.oweCancel_continueOnFailure (l : Lane) (st : Status) : (l.oweCancel st).continueOnFailure = l.continueOnFailure := rfl
@[simp] theorem Lane.oweCancel_stopAfter (l : Lane) (st : Status) : (l.oweCancel st).stopAfter = l.stopAfter := rfl
@[simp] theorem Lane.oweCancel_next (l : Lane) (st : Status) : (l.oweCancel st).next = l.next := rfl
@[simp] theorem Lane.oweCancel_destination (l : Lane) (st : Status) : (l.oweCancel st).destination = l.destination := rfl
@[simp] theorem Lane.oweCancel_port (l : Lane) (st : Status) : (l.oweCancel st).port = l.port := rfl
@[simp] theorem Lane.oweCancel_patienceField (l : Lane) (st : Status) : (l.oweCancel st).patienceField = l.patienceField := rfl
@[simp] theorem Lane.oweCancel_window (l : Lane) (st : Status) : (l.oweCancel st).window = l.window := rfl
@[simp] theorem Lane.oweCancel_all (l : Lane) (st : Status) : (l.oweCancel st).all = l.all := rfl
@[simp] theorem Lane.oweCancel_flag (l : Lane) (st : Status) : (l.oweCancel st).flag = l.flag := rfl
@[simp] theorem Lane.oweCancel_consume (l : Lane) (st : Status) : (l.oweCancel st).consume = l.consume := rfl
@[simp] theorem Lane.oweCancel_setsFlag (l : Lane) (st : Status) : (l.oweCancel st).setsFlag = l.setsFlag := rfl
@[simp] theorem Lane.oweCancel_tag (l : Lane) (st : Status) : (l.oweCancel st).tag = l.tag := rfl
@[simp] theorem Lane.oweCancel_bufferAddress (l : Lane) (st : Status) : (l.oweCancel st).bufferAddress = l.bufferAddress := rfl
@[simp] theorem Lane.oweCancel_timeLimit (l : Lane) (st : Status) : (l.oweCancel st).timeLimit = l.timeLimit := rfl
@[simp] theorem Lane.oweCancel_length (l : Lane) (st : Status) : (l.oweCancel st).length = l.length := rfl
@[simp] theorem Lane.oweCancel_alternate (l : Lane) (st : Status) : (l.oweCancel st).alternate = l.alternate := rfl
@[simp] theorem Lane.oweCancel_remoteOffset (l : Lane) (st : Status) : (l.oweCancel st).remoteOffset = l.remoteOffset := rfl
@[simp] theorem Lane.oweCancel_lineDescriptor (l : Lane) (st : Status) : (l.oweCancel st).lineDescriptor = l.lineDescriptor := rfl

/-! ### post -/

@[simp] theorem Lane.post_state (l : Lane) (e : Event) (j : LaneJob) : (l.post e j).state = .reporting := rfl
@[simp] theorem Lane.post_job (l : Lane) (e : Event) (j : LaneJob) : (l.post e j).job = j := rfl
@[simp] theorem Lane.post_address (l : Lane) (e : Event) (j : LaneJob) : (l.post e j).address = l.address := rfl
@[simp] theorem Lane.post_copy (l : Lane) (e : Event) (j : LaneJob) : (l.post e j).copy = l.copy := rfl
@[simp] theorem Lane.post_messageCounter (l : Lane) (e : Event) (j : LaneJob) : (l.post e j).messageCounter = l.messageCounter := rfl
@[simp] theorem Lane.post_messageNumber (l : Lane) (e : Event) (j : LaneJob) : (l.post e j).messageNumber = l.messageNumber := rfl
@[simp] theorem Lane.post_segment (l : Lane) (e : Event) (j : LaneJob) : (l.post e j).segment = l.segment := rfl
@[simp] theorem Lane.post_patience (l : Lane) (e : Event) (j : LaneJob) : (l.post e j).patience = l.patience := rfl
@[simp] theorem Lane.post_retries (l : Lane) (e : Event) (j : LaneJob) : (l.post e j).retries = l.retries := rfl
@[simp] theorem Lane.post_unanswered (l : Lane) (e : Event) (j : LaneJob) : (l.post e j).unanswered = l.unanswered := rfl
@[simp] theorem Lane.post_lastReply (l : Lane) (e : Event) (j : LaneJob) : (l.post e j).lastReply = l.lastReply := rfl
@[simp] theorem Lane.post_frame (l : Lane) (e : Event) (j : LaneJob) : (l.post e j).frame = l.frame := rfl
@[simp] theorem Lane.post_hold (l : Lane) (e : Event) (j : LaneJob) : (l.post e j).hold = l.hold := rfl
@[simp] theorem Lane.post_wait (l : Lane) (e : Event) (j : LaneJob) : (l.post e j).wait = l.wait := rfl
@[simp] theorem Lane.post_stopMark (l : Lane) (e : Event) (j : LaneJob) : (l.post e j).stopMark = l.stopMark := rfl
@[simp] theorem Lane.post_cancelOwed (l : Lane) (e : Event) (j : LaneJob) : (l.post e j).cancelOwed = l.cancelOwed := rfl
@[simp] theorem Lane.post_pendingStatus (l : Lane) (e : Event) (j : LaneJob) : (l.post e j).pendingStatus = l.pendingStatus := rfl
@[simp] theorem Lane.post_heldEvent (l : Lane) (e : Event) (j : LaneJob) : (l.post e j).heldEvent = some e := rfl
@[simp] theorem Lane.post_lineWork (l : Lane) (e : Event) (j : LaneJob) : (l.post e j).lineWork = l.lineWork := rfl
@[simp] theorem Lane.post_validated (l : Lane) (e : Event) (j : LaneJob) : (l.post e j).validated = l.validated := rfl
@[simp] theorem Lane.post_expiryHanded (l : Lane) (e : Event) (j : LaneJob) : (l.post e j).expiryHanded = l.expiryHanded := rfl
@[simp] theorem Lane.post_removalHanded (l : Lane) (e : Event) (j : LaneJob) : (l.post e j).removalHanded = l.removalHanded := rfl
@[simp] theorem Lane.post_kind (l : Lane) (e : Event) (j : LaneJob) : (l.post e j).kind = l.kind := rfl
@[simp] theorem Lane.post_notify (l : Lane) (e : Event) (j : LaneJob) : (l.post e j).notify = l.notify := rfl
@[simp] theorem Lane.post_continueOnFailure (l : Lane) (e : Event) (j : LaneJob) : (l.post e j).continueOnFailure = l.continueOnFailure := rfl
@[simp] theorem Lane.post_stopAfter (l : Lane) (e : Event) (j : LaneJob) : (l.post e j).stopAfter = l.stopAfter := rfl
@[simp] theorem Lane.post_next (l : Lane) (e : Event) (j : LaneJob) : (l.post e j).next = l.next := rfl
@[simp] theorem Lane.post_destination (l : Lane) (e : Event) (j : LaneJob) : (l.post e j).destination = l.destination := rfl
@[simp] theorem Lane.post_port (l : Lane) (e : Event) (j : LaneJob) : (l.post e j).port = l.port := rfl
@[simp] theorem Lane.post_patienceField (l : Lane) (e : Event) (j : LaneJob) : (l.post e j).patienceField = l.patienceField := rfl
@[simp] theorem Lane.post_window (l : Lane) (e : Event) (j : LaneJob) : (l.post e j).window = l.window := rfl
@[simp] theorem Lane.post_all (l : Lane) (e : Event) (j : LaneJob) : (l.post e j).all = l.all := rfl
@[simp] theorem Lane.post_flag (l : Lane) (e : Event) (j : LaneJob) : (l.post e j).flag = l.flag := rfl
@[simp] theorem Lane.post_consume (l : Lane) (e : Event) (j : LaneJob) : (l.post e j).consume = l.consume := rfl
@[simp] theorem Lane.post_setsFlag (l : Lane) (e : Event) (j : LaneJob) : (l.post e j).setsFlag = l.setsFlag := rfl
@[simp] theorem Lane.post_tag (l : Lane) (e : Event) (j : LaneJob) : (l.post e j).tag = l.tag := rfl
@[simp] theorem Lane.post_bufferAddress (l : Lane) (e : Event) (j : LaneJob) : (l.post e j).bufferAddress = l.bufferAddress := rfl
@[simp] theorem Lane.post_timeLimit (l : Lane) (e : Event) (j : LaneJob) : (l.post e j).timeLimit = l.timeLimit := rfl
@[simp] theorem Lane.post_length (l : Lane) (e : Event) (j : LaneJob) : (l.post e j).length = l.length := rfl
@[simp] theorem Lane.post_alternate (l : Lane) (e : Event) (j : LaneJob) : (l.post e j).alternate = l.alternate := rfl
@[simp] theorem Lane.post_remoteOffset (l : Lane) (e : Event) (j : LaneJob) : (l.post e j).remoteOffset = l.remoteOffset := rfl
@[simp] theorem Lane.post_lineDescriptor (l : Lane) (e : Event) (j : LaneJob) : (l.post e j).lineDescriptor = l.lineDescriptor := rfl

/-! ### fetchAt -/

@[simp] theorem Lane.fetchAt_state (l : Lane) (a : Nat) : (l.fetchAt a).state = .working := rfl
@[simp] theorem Lane.fetchAt_job (l : Lane) (a : Nat) : (l.fetchAt a).job = .fetch 0 := rfl
@[simp] theorem Lane.fetchAt_address (l : Lane) (a : Nat) : (l.fetchAt a).address = a := rfl
@[simp] theorem Lane.fetchAt_copy (l : Lane) (a : Nat) : (l.fetchAt a).copy = l.copy := rfl
@[simp] theorem Lane.fetchAt_messageCounter (l : Lane) (a : Nat) : (l.fetchAt a).messageCounter = l.messageCounter := rfl
@[simp] theorem Lane.fetchAt_messageNumber (l : Lane) (a : Nat) : (l.fetchAt a).messageNumber = l.messageNumber := rfl
@[simp] theorem Lane.fetchAt_segment (l : Lane) (a : Nat) : (l.fetchAt a).segment = l.segment := rfl
@[simp] theorem Lane.fetchAt_patience (l : Lane) (a : Nat) : (l.fetchAt a).patience = l.patience := rfl
@[simp] theorem Lane.fetchAt_retries (l : Lane) (a : Nat) : (l.fetchAt a).retries = l.retries := rfl
@[simp] theorem Lane.fetchAt_unanswered (l : Lane) (a : Nat) : (l.fetchAt a).unanswered = l.unanswered := rfl
@[simp] theorem Lane.fetchAt_lastReply (l : Lane) (a : Nat) : (l.fetchAt a).lastReply = l.lastReply := rfl
@[simp] theorem Lane.fetchAt_frame (l : Lane) (a : Nat) : (l.fetchAt a).frame = l.frame := rfl
@[simp] theorem Lane.fetchAt_hold (l : Lane) (a : Nat) : (l.fetchAt a).hold = l.hold := rfl
@[simp] theorem Lane.fetchAt_wait (l : Lane) (a : Nat) : (l.fetchAt a).wait = l.wait := rfl
@[simp] theorem Lane.fetchAt_stopMark (l : Lane) (a : Nat) : (l.fetchAt a).stopMark = l.stopMark := rfl
@[simp] theorem Lane.fetchAt_cancelOwed (l : Lane) (a : Nat) : (l.fetchAt a).cancelOwed = l.cancelOwed := rfl
@[simp] theorem Lane.fetchAt_pendingStatus (l : Lane) (a : Nat) : (l.fetchAt a).pendingStatus = l.pendingStatus := rfl
@[simp] theorem Lane.fetchAt_heldEvent (l : Lane) (a : Nat) : (l.fetchAt a).heldEvent = l.heldEvent := rfl
@[simp] theorem Lane.fetchAt_lineWork (l : Lane) (a : Nat) : (l.fetchAt a).lineWork = l.lineWork := rfl
@[simp] theorem Lane.fetchAt_validated (l : Lane) (a : Nat) : (l.fetchAt a).validated = false := rfl
@[simp] theorem Lane.fetchAt_expiryHanded (l : Lane) (a : Nat) : (l.fetchAt a).expiryHanded = l.expiryHanded := rfl
@[simp] theorem Lane.fetchAt_removalHanded (l : Lane) (a : Nat) : (l.fetchAt a).removalHanded = l.removalHanded := rfl
@[simp] theorem Lane.fetchAt_kind (l : Lane) (a : Nat) : (l.fetchAt a).kind = l.kind := rfl
@[simp] theorem Lane.fetchAt_notify (l : Lane) (a : Nat) : (l.fetchAt a).notify = l.notify := rfl
@[simp] theorem Lane.fetchAt_continueOnFailure (l : Lane) (a : Nat) : (l.fetchAt a).continueOnFailure = l.continueOnFailure := rfl
@[simp] theorem Lane.fetchAt_stopAfter (l : Lane) (a : Nat) : (l.fetchAt a).stopAfter = l.stopAfter := rfl
@[simp] theorem Lane.fetchAt_next (l : Lane) (a : Nat) : (l.fetchAt a).next = l.next := rfl
@[simp] theorem Lane.fetchAt_destination (l : Lane) (a : Nat) : (l.fetchAt a).destination = l.destination := rfl
@[simp] theorem Lane.fetchAt_port (l : Lane) (a : Nat) : (l.fetchAt a).port = l.port := rfl
@[simp] theorem Lane.fetchAt_patienceField (l : Lane) (a : Nat) : (l.fetchAt a).patienceField = l.patienceField := rfl
@[simp] theorem Lane.fetchAt_window (l : Lane) (a : Nat) : (l.fetchAt a).window = l.window := rfl
@[simp] theorem Lane.fetchAt_all (l : Lane) (a : Nat) : (l.fetchAt a).all = l.all := rfl
@[simp] theorem Lane.fetchAt_flag (l : Lane) (a : Nat) : (l.fetchAt a).flag = l.flag := rfl
@[simp] theorem Lane.fetchAt_consume (l : Lane) (a : Nat) : (l.fetchAt a).consume = l.consume := rfl
@[simp] theorem Lane.fetchAt_setsFlag (l : Lane) (a : Nat) : (l.fetchAt a).setsFlag = l.setsFlag := rfl
@[simp] theorem Lane.fetchAt_tag (l : Lane) (a : Nat) : (l.fetchAt a).tag = l.tag := rfl
@[simp] theorem Lane.fetchAt_bufferAddress (l : Lane) (a : Nat) : (l.fetchAt a).bufferAddress = l.bufferAddress := rfl
@[simp] theorem Lane.fetchAt_timeLimit (l : Lane) (a : Nat) : (l.fetchAt a).timeLimit = l.timeLimit := rfl
@[simp] theorem Lane.fetchAt_length (l : Lane) (a : Nat) : (l.fetchAt a).length = l.length := rfl
@[simp] theorem Lane.fetchAt_alternate (l : Lane) (a : Nat) : (l.fetchAt a).alternate = l.alternate := rfl
@[simp] theorem Lane.fetchAt_remoteOffset (l : Lane) (a : Nat) : (l.fetchAt a).remoteOffset = l.remoteOffset := rfl
@[simp] theorem Lane.fetchAt_lineDescriptor (l : Lane) (a : Nat) : (l.fetchAt a).lineDescriptor = l.lineDescriptor := rfl

/-! ### advance -/

@[simp] theorem Lane.advance_state (l : Lane) : (l.advance).state = l.state := rfl
@[simp] theorem Lane.advance_job (l : Lane) : (l.advance).job = l.job := rfl
@[simp] theorem Lane.advance_address (l : Lane) : (l.advance).address = l.address := rfl
@[simp] theorem Lane.advance_copy (l : Lane) : (l.advance).copy = l.copy := rfl
@[simp] theorem Lane.advance_messageCounter (l : Lane) : (l.advance).messageCounter = l.messageCounter := rfl
@[simp] theorem Lane.advance_messageNumber (l : Lane) : (l.advance).messageNumber = l.messageNumber := rfl
@[simp] theorem Lane.advance_segment (l : Lane) : (l.advance).segment = l.segment + 1 := rfl
@[simp] theorem Lane.advance_patience (l : Lane) : (l.advance).patience = l.patience := rfl
@[simp] theorem Lane.advance_retries (l : Lane) : (l.advance).retries = l.retries := rfl
@[simp] theorem Lane.advance_unanswered (l : Lane) : (l.advance).unanswered = l.unanswered := rfl
@[simp] theorem Lane.advance_lastReply (l : Lane) : (l.advance).lastReply = some .accepted := rfl
@[simp] theorem Lane.advance_frame (l : Lane) : (l.advance).frame = l.frame := rfl
@[simp] theorem Lane.advance_hold (l : Lane) : (l.advance).hold = l.hold := rfl
@[simp] theorem Lane.advance_wait (l : Lane) : (l.advance).wait = l.wait := rfl
@[simp] theorem Lane.advance_stopMark (l : Lane) : (l.advance).stopMark = l.stopMark := rfl
@[simp] theorem Lane.advance_cancelOwed (l : Lane) : (l.advance).cancelOwed = l.cancelOwed := rfl
@[simp] theorem Lane.advance_pendingStatus (l : Lane) : (l.advance).pendingStatus = l.pendingStatus := rfl
@[simp] theorem Lane.advance_heldEvent (l : Lane) : (l.advance).heldEvent = l.heldEvent := rfl
@[simp] theorem Lane.advance_lineWork (l : Lane) : (l.advance).lineWork = l.lineWork := rfl
@[simp] theorem Lane.advance_validated (l : Lane) : (l.advance).validated = l.validated := rfl
@[simp] theorem Lane.advance_expiryHanded (l : Lane) : (l.advance).expiryHanded = l.expiryHanded := rfl
@[simp] theorem Lane.advance_removalHanded (l : Lane) : (l.advance).removalHanded = l.removalHanded := rfl
@[simp] theorem Lane.advance_kind (l : Lane) : (l.advance).kind = l.kind := rfl
@[simp] theorem Lane.advance_notify (l : Lane) : (l.advance).notify = l.notify := rfl
@[simp] theorem Lane.advance_continueOnFailure (l : Lane) : (l.advance).continueOnFailure = l.continueOnFailure := rfl
@[simp] theorem Lane.advance_stopAfter (l : Lane) : (l.advance).stopAfter = l.stopAfter := rfl
@[simp] theorem Lane.advance_next (l : Lane) : (l.advance).next = l.next := rfl
@[simp] theorem Lane.advance_destination (l : Lane) : (l.advance).destination = l.destination := rfl
@[simp] theorem Lane.advance_port (l : Lane) : (l.advance).port = l.port := rfl
@[simp] theorem Lane.advance_patienceField (l : Lane) : (l.advance).patienceField = l.patienceField := rfl
@[simp] theorem Lane.advance_window (l : Lane) : (l.advance).window = l.window := rfl
@[simp] theorem Lane.advance_all (l : Lane) : (l.advance).all = l.all := rfl
@[simp] theorem Lane.advance_flag (l : Lane) : (l.advance).flag = l.flag := rfl
@[simp] theorem Lane.advance_consume (l : Lane) : (l.advance).consume = l.consume := rfl
@[simp] theorem Lane.advance_setsFlag (l : Lane) : (l.advance).setsFlag = l.setsFlag := rfl
@[simp] theorem Lane.advance_tag (l : Lane) : (l.advance).tag = l.tag := rfl
@[simp] theorem Lane.advance_bufferAddress (l : Lane) : (l.advance).bufferAddress = l.bufferAddress := rfl
@[simp] theorem Lane.advance_timeLimit (l : Lane) : (l.advance).timeLimit = l.timeLimit := rfl
@[simp] theorem Lane.advance_length (l : Lane) : (l.advance).length = l.length := rfl
@[simp] theorem Lane.advance_alternate (l : Lane) : (l.advance).alternate = l.alternate := rfl
@[simp] theorem Lane.advance_remoteOffset (l : Lane) : (l.advance).remoteOffset = l.remoteOffset := rfl
@[simp] theorem Lane.advance_lineDescriptor (l : Lane) : (l.advance).lineDescriptor = l.lineDescriptor := rfl

/-! ### failOffline -/

@[simp] theorem Lane.failOffline_state (l : Lane) : (l.failOffline).state = .working := rfl
@[simp] theorem Lane.failOffline_job (l : Lane) : (l.failOffline).job = .writeProgress .offline := rfl
@[simp] theorem Lane.failOffline_address (l : Lane) : (l.failOffline).address = l.address := rfl
@[simp] theorem Lane.failOffline_copy (l : Lane) : (l.failOffline).copy = l.copy := rfl
@[simp] theorem Lane.failOffline_messageCounter (l : Lane) : (l.failOffline).messageCounter = l.messageCounter := rfl
@[simp] theorem Lane.failOffline_messageNumber (l : Lane) : (l.failOffline).messageNumber = l.messageNumber := rfl
@[simp] theorem Lane.failOffline_segment (l : Lane) : (l.failOffline).segment = l.segment := rfl
@[simp] theorem Lane.failOffline_patience (l : Lane) : (l.failOffline).patience = l.patience := rfl
@[simp] theorem Lane.failOffline_retries (l : Lane) : (l.failOffline).retries = l.retries := rfl
@[simp] theorem Lane.failOffline_unanswered (l : Lane) : (l.failOffline).unanswered = l.unanswered := rfl
@[simp] theorem Lane.failOffline_lastReply (l : Lane) : (l.failOffline).lastReply = l.lastReply := rfl
@[simp] theorem Lane.failOffline_frame (l : Lane) : (l.failOffline).frame = none := rfl
@[simp] theorem Lane.failOffline_hold (l : Lane) : (l.failOffline).hold = none := rfl
@[simp] theorem Lane.failOffline_wait (l : Lane) : (l.failOffline).wait = l.wait := rfl
@[simp] theorem Lane.failOffline_stopMark (l : Lane) : (l.failOffline).stopMark = l.stopMark := rfl
@[simp] theorem Lane.failOffline_cancelOwed (l : Lane) : (l.failOffline).cancelOwed = false := rfl
@[simp] theorem Lane.failOffline_pendingStatus (l : Lane) : (l.failOffline).pendingStatus = none := rfl
@[simp] theorem Lane.failOffline_heldEvent (l : Lane) : (l.failOffline).heldEvent = l.heldEvent := rfl
@[simp] theorem Lane.failOffline_lineWork (l : Lane) : (l.failOffline).lineWork = l.lineWork := rfl
@[simp] theorem Lane.failOffline_validated (l : Lane) : (l.failOffline).validated = l.validated := rfl
@[simp] theorem Lane.failOffline_expiryHanded (l : Lane) : (l.failOffline).expiryHanded = l.expiryHanded := rfl
@[simp] theorem Lane.failOffline_removalHanded (l : Lane) : (l.failOffline).removalHanded = l.removalHanded := rfl
@[simp] theorem Lane.failOffline_kind (l : Lane) : (l.failOffline).kind = l.kind := rfl
@[simp] theorem Lane.failOffline_notify (l : Lane) : (l.failOffline).notify = l.notify := rfl
@[simp] theorem Lane.failOffline_continueOnFailure (l : Lane) : (l.failOffline).continueOnFailure = l.continueOnFailure := rfl
@[simp] theorem Lane.failOffline_stopAfter (l : Lane) : (l.failOffline).stopAfter = l.stopAfter := rfl
@[simp] theorem Lane.failOffline_next (l : Lane) : (l.failOffline).next = l.next := rfl
@[simp] theorem Lane.failOffline_destination (l : Lane) : (l.failOffline).destination = l.destination := rfl
@[simp] theorem Lane.failOffline_port (l : Lane) : (l.failOffline).port = l.port := rfl
@[simp] theorem Lane.failOffline_patienceField (l : Lane) : (l.failOffline).patienceField = l.patienceField := rfl
@[simp] theorem Lane.failOffline_window (l : Lane) : (l.failOffline).window = l.window := rfl
@[simp] theorem Lane.failOffline_all (l : Lane) : (l.failOffline).all = l.all := rfl
@[simp] theorem Lane.failOffline_flag (l : Lane) : (l.failOffline).flag = l.flag := rfl
@[simp] theorem Lane.failOffline_consume (l : Lane) : (l.failOffline).consume = l.consume := rfl
@[simp] theorem Lane.failOffline_setsFlag (l : Lane) : (l.failOffline).setsFlag = l.setsFlag := rfl
@[simp] theorem Lane.failOffline_tag (l : Lane) : (l.failOffline).tag = l.tag := rfl
@[simp] theorem Lane.failOffline_bufferAddress (l : Lane) : (l.failOffline).bufferAddress = l.bufferAddress := rfl
@[simp] theorem Lane.failOffline_timeLimit (l : Lane) : (l.failOffline).timeLimit = l.timeLimit := rfl
@[simp] theorem Lane.failOffline_length (l : Lane) : (l.failOffline).length = l.length := rfl
@[simp] theorem Lane.failOffline_alternate (l : Lane) : (l.failOffline).alternate = l.alternate := rfl
@[simp] theorem Lane.failOffline_remoteOffset (l : Lane) : (l.failOffline).remoteOffset = l.remoteOffset := rfl
@[simp] theorem Lane.failOffline_lineDescriptor (l : Lane) : (l.failOffline).lineDescriptor = l.lineDescriptor := rfl

/-! ### leaveWait -/

@[simp] theorem Lane.leaveWait_state (l : Lane) (st : Status) : (l.leaveWait st).state = .working := rfl
@[simp] theorem Lane.leaveWait_job (l : Lane) (st : Status) : (l.leaveWait st).job = .writeProgress st := rfl
@[simp] theorem Lane.leaveWait_address (l : Lane) (st : Status) : (l.leaveWait st).address = l.address := rfl
@[simp] theorem Lane.leaveWait_copy (l : Lane) (st : Status) : (l.leaveWait st).copy = l.copy := rfl
@[simp] theorem Lane.leaveWait_messageCounter (l : Lane) (st : Status) : (l.leaveWait st).messageCounter = l.messageCounter := rfl
@[simp] theorem Lane.leaveWait_messageNumber (l : Lane) (st : Status) : (l.leaveWait st).messageNumber = l.messageNumber := rfl
@[simp] theorem Lane.leaveWait_segment (l : Lane) (st : Status) : (l.leaveWait st).segment = l.segment := rfl
@[simp] theorem Lane.leaveWait_patience (l : Lane) (st : Status) : (l.leaveWait st).patience = l.patience := rfl
@[simp] theorem Lane.leaveWait_retries (l : Lane) (st : Status) : (l.leaveWait st).retries = l.retries := rfl
@[simp] theorem Lane.leaveWait_unanswered (l : Lane) (st : Status) : (l.leaveWait st).unanswered = l.unanswered := rfl
@[simp] theorem Lane.leaveWait_lastReply (l : Lane) (st : Status) : (l.leaveWait st).lastReply = l.lastReply := rfl
@[simp] theorem Lane.leaveWait_frame (l : Lane) (st : Status) : (l.leaveWait st).frame = none := rfl
@[simp] theorem Lane.leaveWait_hold (l : Lane) (st : Status) : (l.leaveWait st).hold = none := rfl
@[simp] theorem Lane.leaveWait_wait (l : Lane) (st : Status) : (l.leaveWait st).wait = none := rfl
@[simp] theorem Lane.leaveWait_stopMark (l : Lane) (st : Status) : (l.leaveWait st).stopMark = l.stopMark := rfl
@[simp] theorem Lane.leaveWait_cancelOwed (l : Lane) (st : Status) : (l.leaveWait st).cancelOwed = l.cancelOwed := rfl
@[simp] theorem Lane.leaveWait_pendingStatus (l : Lane) (st : Status) : (l.leaveWait st).pendingStatus = l.pendingStatus := rfl
@[simp] theorem Lane.leaveWait_heldEvent (l : Lane) (st : Status) : (l.leaveWait st).heldEvent = l.heldEvent := rfl
@[simp] theorem Lane.leaveWait_lineWork (l : Lane) (st : Status) : (l.leaveWait st).lineWork = l.lineWork := rfl
@[simp] theorem Lane.leaveWait_validated (l : Lane) (st : Status) : (l.leaveWait st).validated = l.validated := rfl
@[simp] theorem Lane.leaveWait_expiryHanded (l : Lane) (st : Status) : (l.leaveWait st).expiryHanded = false := rfl
@[simp] theorem Lane.leaveWait_removalHanded (l : Lane) (st : Status) : (l.leaveWait st).removalHanded = false := rfl
@[simp] theorem Lane.leaveWait_kind (l : Lane) (st : Status) : (l.leaveWait st).kind = l.kind := rfl
@[simp] theorem Lane.leaveWait_notify (l : Lane) (st : Status) : (l.leaveWait st).notify = l.notify := rfl
@[simp] theorem Lane.leaveWait_continueOnFailure (l : Lane) (st : Status) : (l.leaveWait st).continueOnFailure = l.continueOnFailure := rfl
@[simp] theorem Lane.leaveWait_stopAfter (l : Lane) (st : Status) : (l.leaveWait st).stopAfter = l.stopAfter := rfl
@[simp] theorem Lane.leaveWait_next (l : Lane) (st : Status) : (l.leaveWait st).next = l.next := rfl
@[simp] theorem Lane.leaveWait_destination (l : Lane) (st : Status) : (l.leaveWait st).destination = l.destination := rfl
@[simp] theorem Lane.leaveWait_port (l : Lane) (st : Status) : (l.leaveWait st).port = l.port := rfl
@[simp] theorem Lane.leaveWait_patienceField (l : Lane) (st : Status) : (l.leaveWait st).patienceField = l.patienceField := rfl
@[simp] theorem Lane.leaveWait_window (l : Lane) (st : Status) : (l.leaveWait st).window = l.window := rfl
@[simp] theorem Lane.leaveWait_all (l : Lane) (st : Status) : (l.leaveWait st).all = l.all := rfl
@[simp] theorem Lane.leaveWait_flag (l : Lane) (st : Status) : (l.leaveWait st).flag = l.flag := rfl
@[simp] theorem Lane.leaveWait_consume (l : Lane) (st : Status) : (l.leaveWait st).consume = l.consume := rfl
@[simp] theorem Lane.leaveWait_setsFlag (l : Lane) (st : Status) : (l.leaveWait st).setsFlag = l.setsFlag := rfl
@[simp] theorem Lane.leaveWait_tag (l : Lane) (st : Status) : (l.leaveWait st).tag = l.tag := rfl
@[simp] theorem Lane.leaveWait_bufferAddress (l : Lane) (st : Status) : (l.leaveWait st).bufferAddress = l.bufferAddress := rfl
@[simp] theorem Lane.leaveWait_timeLimit (l : Lane) (st : Status) : (l.leaveWait st).timeLimit = l.timeLimit := rfl
@[simp] theorem Lane.leaveWait_length (l : Lane) (st : Status) : (l.leaveWait st).length = l.length := rfl
@[simp] theorem Lane.leaveWait_alternate (l : Lane) (st : Status) : (l.leaveWait st).alternate = l.alternate := rfl
@[simp] theorem Lane.leaveWait_remoteOffset (l : Lane) (st : Status) : (l.leaveWait st).remoteOffset = l.remoteOffset := rfl
@[simp] theorem Lane.leaveWait_lineDescriptor (l : Lane) (st : Status) : (l.leaveWait st).lineDescriptor = l.lineDescriptor := rfl

/-! ### Moves that stay within one lane -/

/-- Everything line loss can do to a lane: it fails OFFLINE, or it is left alone (R95). -/
theorem Lane.lineLoss_cases (l : Lane) :
    l.lineLoss = l ∨ l.lineLoss = l.failOffline ∧ (l.lineWork = true ∨ l.cancelOwed = true) ∧
      (l.state = .queued ∨ l.state = .cancelling ∨ l.state = .held ∨ l.state = .working ∧ ∃ got, l.job = .readPayload got) := by
  unfold Lane.lineLoss
  split
  · rename_i hw
    have hw' : l.lineWork = true ∨ l.cancelOwed = true := by simpa using hw
    split
    · rename_i h; exact .inr ⟨rfl, hw', .inl h⟩
    · rename_i h; exact .inr ⟨rfl, hw', .inr (.inl h)⟩
    · rename_i h; exact .inr ⟨rfl, hw', .inr (.inr (.inl h))⟩
    · rename_i h
      split
      · rename_i got hj; exact .inr ⟨rfl, hw', .inr (.inr (.inr ⟨h, got, hj⟩))⟩
      all_goals exact .inl rfl
    all_goals exact .inl rfl
  · exact .inl rfl

/-- Everything a path of R91 can do: end the chain with LANE ENDED held, or fetch the descriptor at a legal address. -/
theorem Lane.takePath_cases (l : Lane) (i : Fin 8) (st : Status) :
    (∃ r, l.takePath i st = l.endChain i r) ∨ ∃ a, a ≤ Config.lastDescriptor ∧ l.takePath i st = l.fetchAt a := by
  unfold Lane.takePath Lane.follow
  split
  · exact .inl ⟨_, rfl⟩
  split
  · exact .inl ⟨_, rfl⟩
  split
  · exact .inl ⟨_, rfl⟩
  split
  · exact .inl ⟨_, rfl⟩
  split <;> split
  · exact .inl ⟨_, rfl⟩
  · exact .inr ⟨_, by omega, rfl⟩
  · exact .inl ⟨_, rfl⟩
  · exact .inr ⟨_, by omega, rfl⟩

end Sys2Proof.Machine
end

