-- ==== Sys2Proof/WellFormed.lean ====
section
/-! DEFINITION. Which commands are the event their row names. The machine gives every command a meaning, well formed or
not: an ill-formed host write acts as the host address space says (log 25). -/

namespace Sys2Proof

/-- The control page words whose host write has a row of its own: 3 (R156), 4 (R164), 16 (R155), 17 (R165). -/
def pageWordHasOwnRow (page : BitVec 5) : Bool :=
  page == 3 || page == 4 || page == 16 || page == 17

/-- The bit times of a frame with `n` words between its delimiters (R42, Table 3.1): 8 for the start delimiter, 16 a
word, 4 for the end delimiter. -/
def frameBitTimes (n : Nat) : Nat := 8 + 16 * n + 4

/-- A command is well formed when its operands lie in the range of its row:
a delivered frame is no longer than the stuck limit (R15, R16), a buffer memory write names a word of buffer memory
(R158), a host read names another word than control page word 5, which has a row, and a control page write names a word
with no behaviour of its own. -/
def Instr.wellFormed : Instr → Bool
  | .frameDelivery frame => decide (frameBitTimes frame.words.length ≤ Config.stuckLimit)
  | .hostMemoryWrite address (.write _) => decide (address.toNat < Config.memoryWords)
  | .hostMemoryWrite address .read => decide (address.toNat ≠ Config.memoryWords + 5)
  | .hostMemoryWrite _ .readEnds => true
  | .controlPageWrite page _ => !pageWordHasOwnRow page
  | .powerOnReset | .pinReset | .resetRelease _ _ _ | .lineDisturbance | .readBackMismatch | .jamEnd _
  | .lineIdle | .stuckCondition | .stuckConditionEnd | .exchangeEnd | .drainComplete | .slotStart | .replyStart
  | .ownFrameCompletion | .silenceTimerExpiry | .beaconTimerExpiry | .holdTimerExpiry _ | .waitTimerExpiry _
  | .waitExpiryTake _ | .waitRequestTake _ | .flagRequestTake _ | .waitRemovalTake _ | .contextTimerExpiry _
  | .presenceTimerExpiry _ | .laneWordAccess | .queueTake | .writeInterruptEnables _ | .writeCauses _
  | .eventAcknowledge _ | .timeBaseLowRead | .join | .leave | .startLane | .stopLane | .openPort | .closePort
  | .postReceive | .loadWindow | .clearWindow | .setFlags | .clearFlags | .setSignalMasks | .unknownCommand
  | .firstActiveHalfBit | .commandWordWrite _ => true

end Sys2Proof
end

