-- ==== Sys2Proof/Tests/Slice0.lean ====
section
/-! SUPPORT. The model's own tests: each well-formedness check refuses an ill-formed command, and one step of each command
agrees with the book's worked examples, tables and rules; the source of each expected value is in its docstring. The
states built here also serve Tests/Witnesses.lean. -/

namespace Sys2Proof.Tests

open Sys2Proof Sys2Proof.Machine

-- The theorems of this file are checked one after another: in parallel each would hold a thread and its stack.
set_option Elab.async false

/-! ### Small states -/

/-- The state a command leads to; reset where it does not answer a next state. -/
def run (c : Instr) (s : State) : State :=
  match exec c s with
  | .next t => t
  | .fault _ | .refused _ => State.reset

/-- A station on an idle line between two slots: ACTIVE, SYNCED, epoch 1, last NONE, slot phase 0. -/
def station (number : Fin 32) (count : Nat) : State :=
  { State.reset with
    resetHeld := false
    line := { LineInterface.reset with
      activity := .idle, activityMark := false, slotPhase := some 0, slots := .inSlot 15, idleTime := some 16 }
    ctl := { StationController.reset with
      number := number, count := count, participation := .active, sync := .synced, epoch := 1, silence := some 0
      beacon := some 0 } }

/-- The station after it has left the line: no sync, no timers. -/
def offLine (p : Participation) : State :=
  { station 1 4 with
    ctl := { (station 1 4).ctl with participation := p, sync := .unsynced, silence := none, beacon := none } }

/-- The station UNSYNCED. -/
def unsynced : State := { station 1 4 with ctl := { (station 1 4).ctl with sync := .unsynced } }

/-- A frame of class `k` is being taken in. -/
def hearing (k : FrameClass) (s : State) : State :=
  { s with line := { s.line with
    activity := .receiving, activityMark := true, slots := .stopped, idleTime := some 0, rxClass := k } }

/-- The header fields of a frame. -/
def head (kind : FrameKind) (destination : Fin 32) (all : Bool) (selector : Fin 32) (h2 h3 : Word) : FrameHead :=
  { kind := kind, destination := destination, all := all, selector := selector, h2 := h2, h3 := h3 }

/-- The words of a frame from `source`, lane 4, with this epoch. -/
def words (source : Fin 32) (epoch : BitVec 4) (h : FrameHead) (payload : List Word) : List Word :=
  frameWords (Header.build h source 4 epoch) payload

/-- `n` payload words, 1 and up. -/
def payload (n : Nat) : List Word := (List.range n).map fun k => BitVec.ofNat 16 (k + 1)

/-- A frame is being driven. -/
def driving (k : FrameClass) (h : FrameHead) (s : State) : State :=
  { s with line := { s.line with
    activity := .sending, activityMark := true, slots := .stopped, idleTime := some 0
    tx := some { frameClass := k, header := Header.build h s.ctl.number 0 s.ctl.epoch, payload := [] } } }

/-- An open exchange. -/
def exchangeOf (o : Owner) (h : FrameHead) (phase : Phase) (outcome : Option ExchangeOutcome) : ExchangeRecord :=
  { owner := o, head := h, sourceLane := o.sourceLane, payloadCount := 0, expectsReply := h.addressed, phase := phase
    outcome := outcome, lineLost := false }

/-- The station with this exchange open. -/
def inExchange (x : ExchangeRecord) (s : State) : State := { s with sched := { s.sched with exchange := some x } }

/-- A waiting command with these parameters. -/
def withCommand (code : BitVec 8) (params : Vector Word 6) (s : State) : State :=
  { s with host := { s.host with owner := .station, code := code, params := params } }

/-- A lane with this descriptor copy (D0 to D5), in `state`, doing `job`. -/
def laneOf (state : LaneState) (job : LaneJob) (d0 d1 d2 d3 d4 d5 : Word) : Lane :=
  { Lane.reset with state := state, job := job, address := 100, copy := #v[d0, d1, d2, d3, d4, d5, 0, 0], retries := 3 }

/-- The SEND of Table 12.6: notify, stop-after, destination 1, port 2, patience 3, buffer 2000, length 40. -/
def sendLane (state : LaneState) (job : LaneJob) : Lane := laneOf state job 0x1005 0 0x0918 0x07D0 0x0028 0

/-- The same lane with its frame on offer. -/
def offering (state : LaneState) : Lane :=
  { sendLane state .none with
    validated := true, lineWork := true, frame := some { head := head .data 1 false 2 0 0x0027, payload := payload 32 } }

/-- A WAIT on flag 4 (Table 5.7): notify, consume, limit 500, alternate 1024, next 1016. -/
def waitLane (state : LaneState) (job : LaneJob) : Lane := laneOf state job 0x5004 1016 0x8004 500 1024 0

/-- The station with lane `i` replaced. -/
def withLane (i : Fin 8) (l : Lane) (s : State) : State := s.setLane i l

/-- The station with this wait list for flag 4. -/
def withList (es : List (Fin 8 × Bool)) (s : State) : State :=
  { s with flags := { s.flags with lists := s.flags.lists.set 4 (es.map fun e => { lane := e.1, consume := e.2 }) } }

/-- The station with every port open, and these buffers posted at port 3. -/
def withPorts (buffers : List Buffer) (s : State) : State :=
  { s with recv := { s.recv with
    ports := (Vector.replicate 16 ({ isOpen := true, posted := [], completions := [] } : Port)).set 3
      { isOpen := true, posted := buffers, completions := [] } } }

/-- The context of Table 7.6 with this next segment index: message 17 of 70 words from lane 4 of station 1. -/
def context (next : Nat) : Context :=
  { source := 1, lane := 4, epoch := 3, port := 3, message := 17, length := 70, next := next
    buffer := { address := 8192, capacity := 128 }, stored := 32 * next, age := 0 }

/-- The station with a context in entry 0. -/
def withContext (c : Context) (s : State) : State :=
  { s with recv := { s.recv with contexts := s.recv.contexts.set 0 (some c) } }

/-- The window of Table 8.3 in entry 1. -/
def exampleWindow : Window :=
  { enabled := true, base := 12000, length := 64, readAllowed := true, writeAllowed := true, notify := true
    peers := 0x50, updates := 0, lastWriter := none, pending := 0 }

/-- Station 2 of Table 8.3. -/
def windowStation (w : Window) : State := { station 2 8 with windows := (station 2 8).windows.set 1 w }

/-- An event queue with `n` entries of no interest, the serial and the pointer. -/
def fullQueue (n : Nat) (serial : BitVec 16) (pointer : Fin 35) : EventQueue :=
  { entries := List.replicate n { event := setEvent .signalled 1, timestamp := 0, serial := 0 }
    serial := serial, pointer := pointer }

/-! ### Well-formedness refuses -/

/-- The longest frame within the stuck limit has 80 words; 81 are refused (R16, R42). -/
theorem test_wellFormed_frameLength :
    (Instr.frameDelivery ⟨payload 80, none⟩).wellFormed = true ∧
      (Instr.frameDelivery ⟨payload 81, none⟩).wellFormed = false := by
  decide +kernel

/-- A buffer memory write above 16383 (R158) and a read of word 5 that is not its own row's (R163) are refused. -/
theorem test_wellFormed_memoryAddress :
    (Instr.hostMemoryWrite 16383 (.write 0)).wellFormed = true ∧
      (Instr.hostMemoryWrite 16384 (.write 0)).wellFormed = false ∧
      (Instr.hostMemoryWrite 16388 .read).wellFormed = true ∧ (Instr.hostMemoryWrite 16389 .read).wellFormed = false ∧
      (Instr.hostMemoryWrite 16389 .readEnds).wellFormed = true := by
  decide +kernel

/-- A control page write to a word with a row of its own is refused (Table 11.2). -/
theorem test_wellFormed_page :
    (Instr.controlPageWrite 18 0).wellFormed = true ∧
      ∀ p ∈ [(3 : BitVec 5), 4, 16, 17], (Instr.controlPageWrite p 0).wellFormed = false := by
  decide +kernel

/-- No row of spec/opcode_table.json has bits: no word spells a command, and the queue stays as it is. -/
theorem test_decode_none (n w : Nat) (s : State) : decodeTableWord n w = none ∧ s.withFetchWord n w = s := ⟨rfl, rfl⟩

/-! ### Layouts and the line -/

/-- Table 12.9: the header of segment 1 and of its reply; R169. -/
theorem test_headers :
    Header.build (head .data 1 false 2 (segmentWord 0 1) (lengthWord 40)) 0 0 1 =
        { h0 := 0x3001, h1 := 0x0802, h2 := 0x0001, h3 := 0x0027 } ∧
      (replyFrame 1 1 { request := { h0 := 0x3001, h1 := 0x0802, h2 := 0x0001, h3 := 0x0027 }, code := .accepted
                        words := [], waited := 0 }).header =
        { h0 := 0x8081, h1 := 0x0002, h2 := 0x0001, h3 := 0x0000 } := by
  decide +kernel

/-- Table 12.10: E0 and E1 of station 0's DESCRIPTOR DONE; Table 12.6: D6 as written. -/
theorem test_entryWords :
    let l := { sendLane .working .none with validated := true, segment := 2, lastReply := some .accepted }
    (l.doneEvent 0 .done).word0 = 0x1000 ∧ (l.doneEvent 0 .done).word1 = 0x0402 ∧
      progressWord l.lastReply (l.progress .done) = 0x0002 ∧ statusWord .done = 0x0002 := by
  decide +kernel

/-- Section 1.6: frames of 0, 32, 6 and 4 payload words last 92, 620, 204 and 172 bit times. -/
theorem test_frameTimes :
    frameBitTimes 5 = 92 ∧ frameBitTimes 38 = 620 ∧ frameBitTimes 12 = 204 ∧ frameBitTimes 10 = 172 := by
  decide +kernel

/-- Tables 1.5 and 1.6: ranks of stations 0 to 3 with last NONE and with last 2. -/
theorem test_ranks :
    (List.finRange 4).map (fun n => (station (Fin.ofNat 32 n.val) 4).ctl.rank) = [0, 1, 2, 3] ∧
      (List.finRange 4).map (fun n =>
        ({ (station (Fin.ofNat 32 n.val) 4).ctl with last := some 2 } : StationController).rank) = [1, 2, 3, 0] := by
  decide +kernel

/-- R4: a frame of two words followed by a released half-bit gives its words; without the release it is a disturbance. -/
theorem test_receive :
    receive (frameHalfBits [0x3001, 0x0802] ++ [.released]) = some [0x3001, 0x0802] ∧
      receive (frameHalfBits [0x3001, 0x0802] ++ [.mark]) = none := by
  decide +kernel

/-- R1, R6, Table 12.2: a frame's second bit time is MARK, SPACE, its last SPACE, SPACE; then, and on an idle line, both wires
are released; a jam pulls LNA alone. -/
theorem test_pins :
    let x := (driving .contention (stationHead .beacon) (station 0 4)).line
    let at_ (t : Nat) (half : Fin 2) := ({ x with txTime := t } : LineInterface).drives half
    (at_ 1 0, at_ 1 1) = (.mark, .space) ∧ (at_ 91 0, at_ 91 1) = (.space, .space) ∧ at_ 92 0 = .released ∧
      (station 0 4).line.drives 0 = .released ∧
      ({ x with activity := .jamming } : LineInterface).lna 1 = true ∧
      ({ x with activity := .jamming } : LineInterface).lnb 1 = false := by
  decide +kernel

/-- R20, R78: on a line of one station every destination is bad. -/
theorem test_oneStation :
    ({ StationController.reset with number := 5, count := 1 } : StationController).count = 1 ∧
      (sendLane .working .none).bad { StationController.reset with number := 5, count := 1 } = true ∧
      (laneOf .working .none 0x1005 0 0x0118 0x07D0 0x0028 0).bad
        { StationController.reset with number := 5, count := 1 } = true := by
  decide +kernel

/-! ### Resets -/

/-- Table 2.7, first row: the pin reset keeps epoch 6 and leaves OFFLINE, UNSYNCED, last NONE, reason NONE. -/
theorem test_pinReset :
    let s := { station 3 4 with ctl := { (station 3 4).ctl with epoch := 6, last := some 1 } }
    (run .pinReset s).ctl.epoch = 6 ∧ (run .pinReset s).ctl.participation = .offline ∧ (run .pinReset s).ctl.last = none ∧
      (run .powerOnReset s).ctl.epoch = 0 := by
  decide +kernel

/-- R20: SID 3 and SCN 3 give station 3 of 4 stations; word 1 shows them (Table 12.5). -/
theorem test_resetRelease :
    (run (.resetRelease 3 3 1) State.reset).ctl.number = 3 ∧ (run (.resetRelease 3 3 1) State.reset).ctl.count = 4 ∧
      (run (.resetRelease 3 3 1) State.reset).hostRead 16385 = 0x1881 := by
  decide +kernel

/-- Word 2 at reset: OFFLINE, UNSYNCED, last NONE (63), reason NONE; word 0: part code 24, revision 1 (Table 12.5). -/
theorem test_reset_page : State.reset.hostRead 16386 = 0x1F80 ∧ State.reset.hostRead 16384 = 0x1801 := by
  decide +kernel

/-! ### The line -/

/-- R7: activity within the reply gap starts a frame of reply class, later activity one of contention class. -/
theorem test_firstActiveHalfBit :
    let s := station 1 4
    (run .firstActiveHalfBit { s with line := { s.line with gap := some 16 } }).line.rxClass = .reply ∧
      (run .firstActiveHalfBit s).line.rxClass = .contention := by
  decide +kernel

/-- Section 1.6.3 at stations 0, 1 and 3: DISTURBED, and last becomes NONE. -/
theorem test_lineDisturbance :
    let s := hearing .contention { station 1 4 with ctl := { (station 1 4).ctl with last := some 0 } }
    (run .lineDisturbance s).line.activity = .disturbed ∧ (run .lineDisturbance s).ctl.last = none := by
  decide +kernel

/-- Section 1.6.3 at station 2: the own-collision counter goes from 0 to 1 and the station jams. -/
theorem test_readBackMismatch :
    let s := driving .contention (head .data 1 false 0 0 0) (station 2 4)
    (run .readBackMismatch s).ctl.ownCollisions = 1 ∧ (run .readBackMismatch s).line.activity = .jamming := by
  decide +kernel

/-- R36: the third collision in a row takes the station to FAULTED with reason DUPLICATE STATION. -/
theorem test_readBackMismatch_third :
    let s := { station 2 4 with ctl := { (station 2 4).ctl with ownCollisions := 2 } }
    let t := run .readBackMismatch (driving .contention (head .data 1 false 0 0 0) s)
    t.ctl.participation = .faulted ∧ t.ctl.reason = .duplicateStation := by
  decide +kernel

/-- R5, R15: JAM_END on a released line gives IDLE; LINE_IDLE takes DISTURBED to IDLE, one bit time after the last
activity (R2, R38). -/
theorem test_jamEnd_lineIdle :
    let s := { station 1 4 with line := { (station 1 4).line with activity := .jamming } }
    let t := run .lineIdle (run (.jamEnd false) s)
    (run (.jamEnd true) s).line.activity = .idle ∧ (run (.jamEnd false) s).line.activity = .disturbed ∧
      t.line.activity = .idle ∧ t.line.idleTime = some 1 ∧ t.ctl.silence = some 1 := by
  decide +kernel

/-- R16, R17, R37: LINE FAULT is set and the station is UNSYNCED with reason STUCK; the end leads to IDLE. -/
theorem test_stuckCondition :
    let t := run .stuckCondition (hearing .contention (station 1 4))
    t.line.lineFault = true ∧ t.ctl.sync = .unsynced ∧ t.ctl.reason = .stuck ∧
      (run .stuckConditionEnd t).line.activity = .idle ∧ (run .stuckConditionEnd t).line.lineFault = true := by
  decide +kernel

/-- Table 4.4, turn 2: COLLISION goes to lane 1, which is QUEUED again, and the re-offer mark becomes 1. -/
theorem test_exchangeEnd_collision :
    let s := withLane 1 (offering .exchange)
      (inExchange (exchangeOf (.lane 1) (head .data 1 false 2 0 0) .decided (some .collision)) (station 4 6))
    let t := run .exchangeEnd { s with line := { s.line with activityMark := true } }
    t.lanes[1].state = .queued ∧ t.sched.reoffer = some 1 ∧ t.sched.exchange = none ∧ t.line.slots = .beforeSlot0 0 := by
  decide +kernel

/-- Table 4.4, turn 3: in AWAITING the outcome is NO REPLY; lane 1 spends an error retry, with no re-offer mark. -/
theorem test_exchangeEnd_noReply :
    let s := withLane 1 (offering .exchange)
      (inExchange (exchangeOf (.lane 1) (head .data 1 false 2 0 0) .awaiting none) (station 4 6))
    let t := run .exchangeEnd { s with line := { s.line with activityMark := true } }
    t.lanes[1].state = .queued ∧ t.lanes[1].retries = 2 ∧ t.lanes[1].unanswered = true ∧ t.sched.reoffer = none := by
  decide +kernel

/-- Section 4.9, turn 1: rank 2 of station 4 with last 1 and N = 6; pointer 3, lane 6 CANCELLING is chosen before the
QUEUED lanes 1 and 5, and the pointer becomes 6. -/
theorem test_slotStart_cancel :
    let s0 := { station 4 6 with
      line := { (station 4 6).line with slotPhase := some 1 }, ctl := { (station 4 6).ctl with last := some 1 }
      sched := { (station 4 6).sched with rotation := 3 } }
    let s := withLane 6 (offering .cancelling) (withLane 5 (offering .queued) (withLane 1 (offering .queued) s0))
    s.ctl.rank = 2 ∧ (run .slotStart s).lanes[6].state = .exchange ∧ (run .slotStart s).sched.rotation = 6 := by
  decide +kernel

/-- Section 4.9, turns 2 to 4: pointer 6 chooses lane 1 of the QUEUED lanes 1 and 5; with the re-offer mark 1 lane 1 comes
before lanes 3 and 5; without it, pointer 1 chooses lane 3. -/
theorem test_choice :
    let s0 := withLane 5 (offering .queued) (withLane 1 (offering .queued) (station 4 6))
    let s1 := withLane 3 (offering .queued) s0
    ({ s0 with sched := { s0.sched with rotation := 6 } } : State).choose = some (.lane 1) ∧
      ({ s1 with sched := { s1.sched with rotation := 1, reoffer := some 1 } } : State).choose = some (.lane 1) ∧
      ({ s1 with sched := { s1.sched with rotation := 1 } } : State).choose = some (.lane 3) := by
  decide +kernel

/-- R6, R55: the reply to segment 1 begins with the header of Table 12.9. -/
theorem test_replyStart :
    let s := station 1 2
    let r : PendingReply :=
      { request := { h0 := 0x3001, h1 := 0x0802, h2 := 0x0001, h3 := 0x0027 }, code := .accepted, words := [], waited := 7 }
    (run .replyStart { s with line := { s.line with reply := some r } }).line.tx.map (·.header) =
      some { h0 := 0x8081, h1 := 0x0002, h2 := 0x0001, h3 := 0x0000 } := by
  decide +kernel

/-- R54: a reply whose take is not complete at the start point is not sent, and the take stands. -/
theorem test_replyStart_take :
    let s := station 1 2
    let r : PendingReply := { request := { h0 := 0, h1 := 0, h2 := 0, h3 := 0 }, code := .accepted, words := [], waited := 7 }
    let take : LineTake := { address := 9, work := .store [1] (.window 0 2), claimed := true }
    let t := run .replyStart { s with line := { s.line with reply := some r }, mem := { s.mem with take := some take } }
    t.line.reply = none ∧ t.line.activity = .idle ∧ t.mem.take = some take := by
  decide +kernel

/-- Table 2.7, last row: the own ANNOUNCE completes, last becomes 3 and the pending announce is cleared. -/
theorem test_ownFrameCompletion :
    let s := driving .contention (stationHead .announce) (station 3 4)
    let t := run .ownFrameCompletion { s with sched := { s.sched with pendingAnnounce := true } }
    t.ctl.last = some 3 ∧ t.sched.pendingAnnounce = false ∧ t.line.gap = some 0 := by
  decide +kernel

/-! ### Deliveries -/

/-- Table 2.7, second row: station 2's DATA for station 0 gives SYNCED, last 2, reason HEARD, and one LINE STATE entry
and one PRESENCE CHANGED entry. -/
theorem test_frameDelivery_sync :
    let s := { station 3 4 with ctl := { (station 3 4).ctl with sync := .unsynced } }
    let t := run (.frameDelivery ⟨words 2 5 (head .data 0 false 1 0 (lengthWord 1)) (payload 1), none⟩)
      (hearing .contention s)
    t.ctl.sync = .synced ∧ t.ctl.last = some 2 ∧ t.ctl.reason = .heard ∧ t.queue.entries.length = 2 ∧
      t.line.reply = none := by
  decide +kernel

/-- Table 3.7: the answers to the six deliveries at station 5: a is judged by the receive unit, b and c are
REFUSED-MALFORMED, d, e and f are not answered; f leaves last as it is, and its source counts as heard. -/
theorem test_frameDelivery_judgements :
    let s := withPorts [] (station 5 8)
    let answer (k : FrameClass) (ws : List Word) := (run (.frameDelivery ⟨ws, none⟩) (hearing k s)).line.reply.map (·.code)
    let a := words 3 1 (head .data 5 false 4 (segmentWord 0 2) (lengthWord 70)) (payload 6)
    let f := words 4 1 (head .cancel 5 false 4 0 0) []
    answer .contention a = some .refusedStray ∧
      answer .contention (words 3 1 (head .data 5 false 4 (segmentWord 0 3) (lengthWord 70)) (payload 6)) =
        some .refusedMalformed ∧
      answer .contention (words 6 1 (head .read 5 false 9 0 0) []) = some .refusedMalformed ∧
      answer .contention (words 1 1 (head .signal 0 true 12 0 0) (payload 2)) = none ∧
      answer .contention (words 2 1 (head .write 7 false 2 0 3) (payload 4)) = none ∧
      answer .reply f = none ∧ (run (.frameDelivery ⟨f, none⟩) (hearing .reply s)).ctl.last = none ∧
      (run (.frameDelivery ⟨f, none⟩) (hearing .reply s)).presence.records[4].state = .present ∧
      answer .contention (words 3 1 (head .data 5 false 4 (segmentWord 0 2) (lengthWord 70)) (payload 5)) =
        some .checkError := by
  decide +kernel

/-- Table 7.6 at station 5: BUSY-NO-BUFFER, the context opened with 32 words at 8192, the repeat of segment 1, and the
last segment with its completion. -/
theorem test_dataArrival :
    let h (i : Nat) := Header.build (head .data 5 false 3 (segmentWord 17 i) (lengthWord 70)) 1 4 3
    let s := withPorts [] (station 5 8)
    let posted := withPorts [{ address := 8192, capacity := 128 }] (station 5 8)
    let arrives (s : State) (i n : Nat) : State × Option ReplyCode :=
      match s.dataArrival (h i) (payload n) false with
      | .ok (t, c) => (t.finishTake, some c)
      | .error _ => (s, none)
    (arrives s 0 32).2 = some .busyNoBuffer ∧
      (arrives posted 0 32).2 = some .accepted ∧ (arrives posted 0 32).1.recv.contexts[0] = some (context 1) ∧
      (arrives posted 0 32).1.word 8223 = 32 ∧
      (arrives (withContext (context 2) s) 1 32).2 = some .accepted ∧
      (arrives (withContext (context 2) s) 1 32).1.recv.contexts[0] = some (context 2) ∧
      (arrives (withContext (context 2) s) 2 6).1.recv.contexts[0] = none ∧
      (arrives (withContext (context 2) s) 2 6).1.word 8261 = 6 ∧
      (arrives (withContext (context 2) s) 2 6).1.recv.stream 1 4 = some { epoch := 3, lastCompleted := 17 } ∧
      (arrives (withContext (context 2) s) 2 6).1.recv.ports[3].completions =
        [{ buffer := 8192, status := .complete, length := 70, source := some 1, message := some 17 }] := by
  decide +kernel

/-- Table 8.3: WRITE from 4 accepted; READ from 5 DENIED; a WRITE of offset 60 and count 8 BOUNDS; after CLEAR WINDOW. -/
theorem test_windowRequests :
    let answer (w : Window) (ws : List Word) :=
      (run (.frameDelivery ⟨ws, none⟩) (hearing .contention (windowStation w))).line.reply.map (·.code)
    let write (source : Fin 32) (offset : Word) := words source 1 (head .write 2 false 1 offset 7) (payload 8)
    answer exampleWindow (write 4 0) = some .accepted ∧
      answer exampleWindow (words 5 1 (head .read 2 false 1 0 3) []) = some .refusedDenied ∧
      answer exampleWindow (write 4 60) = some .refusedBounds ∧
      answer { exampleWindow with enabled := false } (write 6 16) = some .refusedWindow ∧
      (exampleWindow.written 4).updates = 1 ∧ (exampleWindow.written 4).pending = 1 := by
  decide +kernel

/-- Section 9.9, step 4: a new epoch from station 2 purges it and adds it to the changed-pending mask. -/
theorem test_presence_restart :
    let t := (PresenceTable.reset.setRecord 2 { state := .present, epoch := some 9, heard := some 700 }).hear 2 10
    t.records[2] = { state := .present, epoch := some 10, heard := some 0 } ∧ t.changed = 4 := by
  decide +kernel

/-- Section 9.9, step 6: the host reads codes 3, 2, 1, 0 for stations 0 to 3 in word 25. -/
theorem test_presenceTimerExpiry :
    let s := station 0 4
    let t := (s.presence.setRecord 1 { state := .present, epoch := some 5, heard := some 65535 }).setRecord 2
      { state := .present, epoch := some 10, heard := some 0 }
    let u := run (.presenceTimerExpiry 1) { s with presence := t }
    u.presence.records[1].state = .absent ∧ field (u.hostRead 16409) 0 8 = 0x1B := by
  decide +kernel

/-- R122: the context is abandoned with status ABANDONED; the queue has space, so RECEIVE DONE is taken at once. -/
theorem test_contextTimerExpiry :
    let t := run (.contextTimerExpiry 0) (withContext { context 1 with age := 262143 } (withPorts [] (station 5 8)))
    t.recv.contexts[0] = none ∧ t.queue.entries.map (fun e => (e.event.unit, e.event.status, e.event.length)) =
      [(3, 2, 32)] := by
  decide +kernel

/-! ### Timers -/

/-- R38, R39: silence gives SYNCED with reason SILENCE; the beacon timer sets the beacon-due mark, and one that has
restarted does not. -/
theorem test_station_timers :
    let s (c : StationController) (silence beacon : Nat) : State :=
      { station 1 4 with ctl := { c with silence := some silence, beacon := some beacon } }
    let t := run .silenceTimerExpiry (s unsynced.ctl 32767 0)
    t.ctl.sync = .synced ∧ t.ctl.reason = .silence ∧
      (run .beaconTimerExpiry (s (station 1 4).ctl 0 16383)).sched.beaconDue = true ∧
      (run .beaconTimerExpiry (s (station 1 4).ctl 0 0)).sched.beaconDue = false := by
  decide +kernel

/-- R82: at the hold timer's end the lane is QUEUED with the same frame. -/
theorem test_holdTimerExpiry :
    let t := run (.holdTimerExpiry 2) (withLane 2 { offering .held with hold := some 2047 } (station 1 4))
    t.lanes[2].state = .queued ∧ t.lanes[2].frame = (offering .held).frame ∧ t.lanes[2].hold = none := by
  decide +kernel

/-! ### Flags -/

/-- Table 6.3, step 4: of the list 1c, 3, 5c the set releases lanes 1 and 3, leaves 5c and the flag clear. -/
theorem test_setFlags_release :
    let s := withLane 5 (waitLane .waiting .none)
      (withLane 3 (waitLane .waiting .none) (withLane 1 (waitLane .waiting .none) (station 2 8)))
    let t := run .setFlags (withCommand 10 #v[0x10, 0, 0, 0, 0, 0] (withList [(1, true), (3, false), (5, true)] s))
    t.flags.lists[4] = [{ lane := 5, consume := true }] ∧ t.flags.isSet 4 = false ∧
      t.lanes[1].job = .writeProgress .done ∧ t.lanes[3].job = .writeProgress .done ∧ t.lanes[5].state = .waiting := by
  decide +kernel

/-- Table 5.8, steps 12 and 13: the wait with flag 4 clear waits; its timer hands an expiry, and the lane writes EXPIRED
at the take. -/
theorem test_wait_expiry :
    let s := withLane 2 (waitLane .working .waitRequest) (station 6 8)
    let t := run (.waitRequestTake 2) s
    let u := run (.waitTimerExpiry 2) (t.updateLane 2 fun l => { l with wait := some 499 })
    t.lanes[2].state = .waiting ∧ t.lanes[2].wait = some 0 ∧ u.lanes[2].state = .waiting ∧
      (run (.waitExpiryTake 2) u).lanes[2].job = .writeProgress .expired ∧
      (run (.waitExpiryTake 2) u).flags.lists[4] = [] := by
  decide +kernel

/-- R101: with the flag set a consuming wait is satisfied at once and clears it; R88: a FLAG request sets flag 9. -/
theorem test_wait_satisfied_and_flag :
    let s := withLane 2 (waitLane .working .waitRequest) (station 6 8)
    let t := run (.waitRequestTake 2) { s with flags := { s.flags with flags := 0x10 } }
    let u := run (.flagRequestTake 2) (withLane 2 (laneOf .working .flagRequest 0x6001 0 0x8009 0 0 0) (station 6 8))
    t.lanes[2].job = .writeProgress .done ∧ t.flags.flags = 0 ∧ u.flags.flags = 0x200 ∧
      u.lanes[2].job = .writeProgress .done := by
  decide +kernel

/-- R93, R103: STOP LANE in WAITING hands a removal; at its take the lane writes STOPPED. -/
theorem test_waitRemovalTake :
    let s := withList [(2, true)] (withLane 2 (waitLane .waiting .none) (station 6 8))
    let t := run .stopLane (withCommand 4 #v[2, 0, 0, 0, 0, 0] s)
    t.lanes[2].removalHanded = true ∧ (run (.waitRemovalTake 2) t).lanes[2].job = .writeProgress .stopped := by
  decide +kernel

/-! ### Lane word accesses -/

/-- R77, R160: the eighth word is read and the lane pointer moves; the next access writes IN PROGRESS to D7 and, with
station 1 of 2 not known absent, the SEND of Table 12.6 takes message number 0. -/
theorem test_laneWordAccess_fetch :
    let s := withLane 0 (sendLane .working (.fetch 7)) (station 0 2)
    let t := run .laneWordAccess s
    let u := run .laneWordAccess t
    t.mem.lanePointer = 0 ∧ t.lanes[0].job = .markInProgress ∧ u.word 107 = 1 ∧ u.lanes[0].job = .readPayload [] ∧
      u.lanes[0].messageNumber = 0 ∧ u.lanes[0].messageCounter = 1 ∧ u.lanes[0].patience = 3 := by
  decide +kernel

/-- R90, R91: D7 is written, DESCRIPTOR DONE and, by stop-after, LANE ENDED are taken at once; the lane is IDLE. -/
theorem test_laneWordAccess_status :
    let s := withLane 0 { sendLane .working (.writeStatus .done) with validated := true, segment := 2 } (station 0 2)
    let t := run .laneWordAccess s
    t.word 107 = 2 ∧ t.lanes[0].state = .idle ∧
      t.queue.entries.map (fun e => e.event.kind) = [.descriptorDone, .laneEnded] := by
  decide +kernel

/-- Table 5.8, steps 4, 8 and 9: an accepted segment advances the index; the last error retry spent fails NO ANSWER and
owes a cancel; the cancel's NO REPLY discharges it. -/
theorem test_sendOutcomes :
    let l := { offering .exchange with segment := 1, retries := 0 }
    (offering .exchange).takeOutcome (.reply .accepted []) =
        { (offering .exchange) with
          state := .working, job := .readPayload [], segment := 1, lastReply := some .accepted, frame := none
          patience := 3 } ∧
      (l.takeOutcome .noReply).state = .cancelling ∧ (l.takeOutcome .noReply).pendingStatus = some .noAnswer ∧
      ((l.takeOutcome .noReply).takeOutcome .noReply).job = .writeProgress .noAnswer := by
  decide +kernel

/-! ### The event queue -/

/-- The state of Table 10.4 before the first pop. -/
def popState : State :=
  { withLane 2 { sendLane .reporting (.afterDone .done) with
        heldEvent := some ((sendLane .working .none).doneEvent 2 .done) } (windowStation { exampleWindow with pending := 3 }) with
    queue := fullQueue 64 1000 16
    presence := { PresenceTable.reset with changed := 32 }
    recv := ReceiveUnit.reset.complete 3 ((context 2).completion .complete 70) }

/-- Table 10.4, pop 1: pointer 16, lane 2 at position 18 is taken with serial 1000. -/
theorem test_eventAcknowledge :
    let t := run (.eventAcknowledge 0) popState
    t.queue.pointer = 18 ∧ t.queue.serial = 1001 ∧ t.queue.entries.length = 64 ∧
      (t.queue.entries.getLast?.map fun e => (e.event.kind, e.serial)) = some (.descriptorDone, 1000) := by
  decide +kernel

/-- Table 10.4, pops 2 to 4: after pointers 18, 25 and 32 come window 1, the signalled set, the presence table. -/
theorem test_arbiter :
    let nextAt (p : Fin 35) (s : State) := ({ s with queue := fullQueue 63 0 p } : State).nextSource
    nextAt 18 { popState with lanes := State.reset.lanes } = some 25 ∧
      nextAt 25 { popState with windows := State.reset.windows, lanes := State.reset.lanes,
                                  flags := { FlagUnit.reset with signalled := 128 } } = some 32 ∧
      nextAt 32 { popState with windows := State.reset.windows, lanes := State.reset.lanes } = some 33 := by
  decide +kernel

/-- R153: a take with a free entry removes the report of the presence table. -/
theorem test_queueTake :
    let s := { station 1 4 with presence := { PresenceTable.reset with changed := 4 } }
    (run .queueTake s).presence.changed = 0 ∧ (run .queueTake s).queue.entries.map (fun e => e.event.length) = [4] := by
  decide +kernel

/-! ### The host port -/

/-- R158: a word written reads back, and its neighbour is untouched; an address above 16415 is ignored. -/
theorem test_hostMemoryWrite :
    (run (.hostMemoryWrite 9000 (.write 77)) (station 1 4)).hostRead 9000 = 77 ∧
      (run (.hostMemoryWrite 9000 (.write 77)) (station 1 4)).hostRead 9001 = (station 1 4).hostRead 9001 ∧
      run (.hostMemoryWrite 16416 (.write 77)) (station 1 4) = station 1 4 := by
  decide +kernel

/-- R136, R159 to R161: a host write that arrives in the middle of a remote WRITE of three words waits with HRDY low behind
the second word, and is served before the third; the counts advance with the last word. -/
theorem test_hostMemoryWrite_waits :
    let s0 := run (.frameDelivery ⟨words 4 1 (head .write 2 false 1 0 2) [7, 8, 9], some 1⟩)
      (hearing .contention (windowStation exampleWindow))
    let s := { s0 with mem := { s0.mem with take := s0.mem.take.map fun k => { k with claimed := true } } }
    let t := run (.hostMemoryWrite 12002 (.write 5)) s
    let u := run .laneWordAccess t
    let v := run .laneWordAccess u
    let w := run .laneWordAccess { v with mem := { v.mem with take := v.mem.take.map fun k => { k with claimed := true } } }
    (t.hrdy, u.hrdy, v.hrdy) = (false, false, true) ∧ (t.word 12001, u.word 12001) = (0, 8) ∧
      (u.word 12002, v.word 12002, w.word 12002) = (0, 5, 9) ∧
      (v.windows[1].updates, w.windows[1].updates) = (0, 1) := by
  decide +kernel

/-- R156, R164: word 3 takes bits 2..0; word 4 clears COMMAND DONE where it holds 1, and HINT falls. -/
theorem test_enables_and_causes :
    let s := { station 1 4 with host := { HostPort.reset with commandDone := true } }
    let t := run (.writeInterruptEnables 0xFFFC) s
    t.host.enableCommandDone = true ∧ t.host.enableEvent = false ∧ t.hint = true ∧
      (run (.writeCauses 4) t).hint = false := by
  decide +kernel

/-- R163: the read of word 5 drives the low word and latches the high word. -/
theorem test_timeBaseLowRead :
    let t := run .timeBaseLowRead { station 1 4 with time := { micros := 0x00051234, subMicro := 0 } }
    t.host.dataOut = some 0x1234 ∧ t.hostRead 16390 = 5 ∧ (run (.hostMemoryWrite 16389 .readEnds) t).host.dataOut = none := by
  decide +kernel

/-- R159: a host read that arrives behind a line-side claim waits with HRDY low and drives the word that the claim stores; one
whose strobe ends first is served with no data driven. -/
theorem test_hostRead_waits :
    let s := { station 1 4 with mem := { (station 1 4).mem with
      take := some { address := 12001, work := .store [8] (.window 1 2), claimed := true } } }
    let t := run (.hostMemoryWrite 12001 .read) s
    let u := run .laneWordAccess t
    let ended := run .laneWordAccess (run .laneWordAccess (run (.hostMemoryWrite 12001 .readEnds) t))
    (t.hrdy, u.hrdy, ended.hrdy) = (false, false, true) ∧ u.host.dataOut = none ∧
      (run .laneWordAccess u).host.dataOut = some 8 ∧ ended.host.dataOut = none := by
  decide +kernel

/-- Table 11.6, steps 2 and 3: parameter 2 is stored; code 7 hands the slot to the station. -/
theorem test_slot_writes :
    (run (.controlPageWrite 20 256) (station 3 4)).host.params[2] = 256 ∧
      (run (.commandWordWrite 7) (station 3 4)).host.owner = .station ∧
      (run (.commandWordWrite 7) (station 3 4)).hostRead 16401 = 0x8007 := by
  decide +kernel

/-! ### Commands of the slot -/

/-- Table 2.7, second row: JOIN gives epoch 7, ACTIVE, UNSYNCED, the ANNOUNCE pending, one LINE STATE entry. -/
theorem test_join :
    let s := offLine .offline
    let t := run .join (withCommand 1 (Vector.replicate 6 0) { s with ctl := { s.ctl with epoch := 6 } })
    t.ctl.epoch = 7 ∧ t.ctl.participation = .active ∧ t.ctl.sync = .unsynced ∧ t.sched.pendingAnnounce = true ∧
      t.queue.entries.map (fun e => (e.event.kind, e.event.status, e.event.extra)) = [(.lineState, 1, 1)] := by
  decide +kernel

/-- R25, R26: LEAVE with lane 1 at line work gives LEAVING; with none, OFFLINE with reason DRAINED. -/
theorem test_leave :
    let t := run .leave (withCommand 2 (Vector.replicate 6 0) (withLane 1 (offering .queued) (station 1 4)))
    t.ctl.participation = .leaving ∧ (run .leave (withCommand 2 (Vector.replicate 6 0) (station 1 4))).ctl.participation =
      .offline ∧ (run .drainComplete (withLane 1 Lane.reset t)).ctl.reason = .drained := by
  decide +kernel

/-- Table 11.6, steps 9 and 11: START LANE 0 at 200, then LANE BUSY (4). -/
theorem test_startLane :
    let t := run .startLane (withCommand 3 #v[0, 200, 256, 0, 0, 0] (station 3 4))
    t.lanes[0].state = .working ∧ t.lanes[0].address = 200 ∧ t.host.result.code = 0 ∧
      (run .startLane (withCommand 3 #v[0, 200, 256, 0, 0, 0] t)).host.result.code = 4 := by
  decide +kernel

/-- Section 5.9: STOP LANE in QUEUED with segment 1 gives CANCELLING with pending status STOPPED. -/
theorem test_stopLane :
    let s := withLane 2 { offering .queued with segment := 1 } (station 6 8)
    let t := run .stopLane (withCommand 4 #v[2, 0, 0, 0, 0, 0] s)
    t.lanes[2].state = .cancelling ∧ t.lanes[2].pendingStatus = some .stopped ∧ t.host.result = .ok := by
  decide +kernel

/-- Table 11.6, step 4: POST RECEIVE of 5, 9000, 256. -/
theorem test_postReceive :
    let t := run .postReceive (withCommand 7 #v[5, 9000, 256, 0, 0, 0] (station 3 4))
    t.recv.ports[5].posted = [{ address := 9000, capacity := 256 }] ∧ t.recv.bufferCount 5 = 1 ∧ t.host.result = .ok ∧
      t.host.commandDone = true := by
  decide +kernel

/-- R166: a command refused in the middle of a remote WRITE changes nothing but the slot and COMMAND DONE. -/
theorem test_badParameter_leaves_the_take :
    let s0 := run (.frameDelivery ⟨words 4 1 (head .write 2 false 1 0 2) [7, 8, 9], some 1⟩)
      (hearing .contention (windowStation exampleWindow))
    ∀ p ∈ [(Instr.clearWindow, (9 : BitVec 8)), (.loadWindow, 8), (.openPort, 5), (.closePort, 6), (.postReceive, 7)],
      let s := withCommand p.2 #v[16, 0, 0, 0, 0, 0] s0
      run p.1 s = { s with host := { s.host with owner := .host, result := .badParameter, commandDone := true } } ∧
        s.mem.take.isSome = true := by
  decide +kernel

/-- R112, R113: OPEN PORT opens; CLOSE PORT ends the context CLOSED and returns the posted buffer. -/
theorem test_openPort_closePort :
    let s := withContext (context 1) (withPorts [{ address := 4000, capacity := 64 }] (station 5 8))
    let t := run .closePort (withCommand 6 #v[3, 0, 0, 0, 0, 0] s)
    (run .openPort (withCommand 5 #v[15, 0, 0, 0, 0, 0] (station 5 8))).recv.ports[15].isOpen = true ∧
      t.recv.ports[3].isOpen = false ∧ t.recv.contexts[0] = none ∧
      t.queue.entries.map (fun e => (e.event.status, e.event.address)) = [(8, 8192), (7, 4000)] := by
  decide +kernel

/-- Table 8.3, steps 1 and 9: LOAD WINDOW 1 and CLEAR WINDOW 1. -/
theorem test_loadWindow_clearWindow :
    let t := run .loadWindow (withCommand 8 #v[1, 12000, 64, 7, 0x50, 0] (station 2 8))
    t.windows[1] = exampleWindow ∧
      (run .clearWindow (withCommand 9 #v[1, 0, 0, 0, 0, 0] t)).windows[1] = { exampleWindow with enabled := false } := by
  decide +kernel

/-- R138, R152: a remote WRITE in progress comes to its end before a LOAD WINDOW or a second WRITE; its WINDOW WRITTEN shows
the base and the update count as they stood then. -/
theorem test_takes_end_before_later_events :
    let wrote (s : State) := run (.frameDelivery ⟨words 4 1 (head .write 2 false 1 0 2) [7, 8, 9], some 1⟩)
      (hearing .contention { s with line := { s.line with frameOver := false } })
    let told (s : State) := (s.queue.entries.filter fun e => e.event.kind == .windowWritten).map fun e =>
      (e.event.address, e.event.length, e.event.extra)
    let s := wrote (windowStation exampleWindow)
    told s = [] ∧
      told (run .loadWindow (withCommand 8 #v[1, 500, 64, 7, 0x50, 0] s)) = [(12000, 1, 1)] ∧
      (run .loadWindow (withCommand 8 #v[1, 500, 64, 7, 0x50, 0] s)).windows[1].updates = 0 ∧
      told (wrote s) = [(12000, 1, 1)] ∧ (wrote s).windows[1].updates = 1 := by
  decide +kernel

/-- R104, R105, R166: CLEAR FLAGS, SET SIGNAL MASKS, and a code of 13. -/
theorem test_flag_commands :
    let s := { station 2 8 with flags := { FlagUnit.reset with flags := 0x00010011 } }
    (run .clearFlags (withCommand 11 #v[0x10, 1, 0, 0, 0, 0] s)).flags.flags = 1 ∧
      (run .setSignalMasks (withCommand 12 #v[1, 2, 3, 4, 0, 0] s)).flags.accept = 0x00020001 ∧
      (run .setSignalMasks (withCommand 12 #v[1, 2, 3, 4, 0, 0] s)).flags.notify = 0x00040003 ∧
      (run .unknownCommand (withCommand 13 #v[0, 0, 0, 0, 0, 0] s)).host.result.code = 1 := by
  decide +kernel

end Sys2Proof.Tests
end

