-- ==== Sys2Proof/Tests/Witnesses.lean ====
section
/-! SUPPORT. For every statement of Certificates/Slice0/Obligations.lean that has hypotheses, a theorem that names the
statement and shows states and operands that meet the hypotheses of each of its clauses, at boundary values where a
clause has a range. -/

namespace Sys2Proof.Tests

open Sys2Proof Sys2Proof.Machine

-- The theorems of this file are checked one after another: in parallel each would hold a thread and its stack.
set_option Elab.async false

/-- The state a step answers, if it answers a next state. -/
def stepTo (c : Instr) (s : State) : Option State :=
  match step { s with pending := [c] } with
  | .next t => some t
  | .fault _ | .refused _ => none

/-- The station with this take in progress and these host claims. -/
def withClaims (take : Option LineTake) (claims : List HostClaim) (s : State) : State :=
  { s with mem := { s.mem with take := take }, host := { s.host with claims := claims } }

/-- A take of the window unit in progress at the last words of buffer memory. -/
def windowTake (rest : List Word) (claimed : Bool) : LineTake :=
  { address := 16384 - rest.length, work := .store rest (.window 7 2), claimed := claimed }

theorem witness_StepRunsFrontCommand :
    ({ station 1 4 with pending := [.slotStart, .join] } : State).pending = .slotStart :: [.join] := rfl

/-- Clause by clause: reset held; an empty queue; a microsecond of 10 bit times before and at its last; a line released and
not; a record that is heard and one that is not. -/
theorem witness_IdleStepIsOneBitTime :
    let s (n : Nat) := { station 1 4 with ctl := { (station 1 4).ctl with rate := 3 }, time := { micros := 0, subMicro := n } }
    State.reset.resetHeld = true ∧ Instr.slotStart.isReset = false ∧ State.reset.pending = [] ∧
      (s 8).pending = [] ∧ (s 8).resetHeld = false ∧ (s 8).time.subMicro + 1 < bitsPerMicro (s 8).ctl.rate ∧
      bitsPerMicro (s 9).ctl.rate ≤ (s 9).time.subMicro + 1 ∧ (s 8).line.released = true ∧
      (hearing .reply (s 8)).line.released = false ∧ (hearing .reply (s 8)).pending = [] ∧ (s 8).onLine = true ∧
      ((s 8).presence.setRecord 3 { state := .present, epoch := some 1, heard := some 65534 }).records[(3 : Fin 32)].state =
        .present ∧ (s 8).presence.records[(3 : Fin 32)].state ≠ .present := by
  decide +kernel

theorem witness_ResetReleaseSamplesStraps : (station 1 4).resetHeld = false ∧ State.reset.resetHeld = true := by
  decide +kernel

/-- A released line; a line being heard; the stuck condition. -/
theorem witness_FirstActiveHalfBitStartsReceiving :
    (station 1 4).resetHeld = false ∧ (station 1 4).line.released = true ∧ (station 1 4).line.stuck = false ∧
      (hearing .contention (station 1 4)).line.released = false ∧
      (run .stuckCondition (hearing .contention (station 1 4))).line.stuck = true := by
  decide +kernel

theorem witness_LineDisturbanceIsAnObservedCollision :
    ∀ s ∈ [hearing .contention (station 1 4), hearing .reply unsynced, hearing .contention (offLine .faulted)],
      s.resetHeld = false ∧ s.line.activity = .receiving ∧ s.line.frameOver = false := by
  decide +kernel

/-- An own reply, and own contention frames at the second and the third collision in a row; both off the line. -/
theorem witness_ReadBackMismatchCollides :
    let s (k : FrameClass) (n : Nat) :=
      driving k (head .data 2 false 0 0 0) { station 1 4 with ctl := { (station 1 4).ctl with ownCollisions := n } }
    (∀ x ∈ [s .reply 0, s .contention 1, s .contention 2],
      x.resetHeld = false ∧ x.line.activity = .sending ∧ x.line.frameOver = false ∧ x.onLine = true) ∧
    (∀ k ∈ [FrameClass.reply, .contention], let x := driving k (head .data 2 false 0 0 0) (offLine .faulted)
      x.resetHeld = false ∧ x.line.activity = .sending ∧ x.line.frameOver = false ∧ x.onLine = false ∧
        x.line.tx.map (·.frameClass) = some k) ∧
    (s .reply 0).line.tx.map (·.frameClass) = some .reply ∧
    (s .contention 1).line.tx.map (·.frameClass) = some .contention ∧ (s .contention 1).ctl.ownCollisions + 1 < 3 ∧
    (s .contention 2).line.tx.map (·.frameClass) = some .contention ∧ 3 ≤ (s .contention 2).ctl.ownCollisions + 1 := by
  decide +kernel

/-- The jam; a frame that has ended; DISTURBED after activity and after reset, where none is known; none of them. -/
theorem witness_JamEndAndLineIdle :
    let s (a : LineActivity) (ended : Bool) :=
      { station 1 4 with line := { (station 1 4).line with activity := a, frameOver := ended } }
    (s .jamming false).resetHeld = false ∧ (s .jamming false).line.activity = .jamming ∧
      (s .idle false).line.activity ≠ .jamming ∧ (s .receiving true).line.stuck = false ∧
      (s .receiving true).line.frameOver = true ∧ (s .disturbed false).line.activity = .disturbed ∧
      (s .disturbed false).line.idleTime ≠ none ∧ (run (.resetRelease 1 3 0) State.reset).resetHeld = false ∧
      (run (.resetRelease 1 3 0) State.reset).line.activity = .disturbed ∧
      (run (.resetRelease 1 3 0) State.reset).line.idleTime = none ∧
      (s .idle false).line.frameOver = false ∧ (s .idle false).line.activity ≠ .disturbed := by
  decide +kernel

theorem witness_StuckConditionBeginsAndEnds :
    let s := hearing .contention (station 1 4)
    let t := run .stuckCondition s
    s.resetHeld = false ∧ s.line.running = true ∧ s.line.stuck = false ∧ (station 1 4).line.running = false ∧
      t.resetHeld = false ∧ t.line.stuck = true := by
  decide +kernel

theorem witness_LineFaultIsSticky :
    let s := hearing .contention (station 1 4)
    let t := run .stuckCondition s
    s.resetHeld = false ∧ s.line.running = true ∧ s.line.stuck = false ∧ s.hostPathFree = true ∧ t.line.stuck = true ∧
      (withClaims (some (windowTake [1] false)) [.write 16388 2] t).mem.lineClaims = false ∧
      (withClaims (some (windowTake [1] false)) [.write 16388 2] t).host.claims = .write 16388 2 :: [] ∧
      (2 : Word).getLsbD 1 = true ∧ (0 : Word).getLsbD 1 = false ∧ t.line.lineFault = true ∧
      (run (.writeInterruptEnables 2) t).host.enableLineFault = true ∧
      (run (.writeInterruptEnables 2) t).line.lineFault = true ∧
      (∀ c ∈ [Instr.writeCauses 2, .controlPageWrite 4 2, .hostMemoryWrite 16388 (.write 2)],
        (run c (run .stuckConditionEnd t)).line.lineFault = false) ∧
      (stepTo .slotStart t).isSome = true ∧ Instr.slotStart.isReset = false ∧
      (stepTo .laneWordAccess (withClaims none [.write 16387 2] t)).isSome = true := by
  decide +kernel

/-- No exchange; a station frame's exchange; a lane's, in AWAITING and with the line-lost mark. -/
theorem witness_ExchangeEndClosesExchange :
    let marked (s : State) := { s with line := { s.line with activityMark := true } }
    let lane := inExchange (exchangeOf (.lane 1) (head .read 2 false 1 0 0) .awaiting none) (station 1 4)
    let beacon := inExchange (exchangeOf .beacon (stationHead .beacon) .decided (some .sent)) (station 1 4)
    (station 1 4).line.activityMark = false ∧
    (∀ s ∈ [marked (station 1 4), marked lane, marked beacon],
      s.resetHeld = false ∧ s.line.released = true ∧ s.line.stuck = false ∧ s.line.activityMark = true) ∧
    (marked (station 1 4)).sched.exchange = none ∧ (marked beacon).sched.exchange.map (·.owner) = some .beacon ∧
    (marked lane).sched.exchange.map (·.owner) = some (.lane 1) := by
  decide +kernel

/-- Slot 0 after an exchange end; the slot after slot 0; the slot after the last of a round. -/
theorem witness_SlotsAreCountedAndPass :
    let s0 := { station 1 4 with line := { (station 1 4).line with slots := .beforeSlot0 31, slotPhase := none } }
    let s3 := { station 1 4 with line := { (station 1 4).line with slotPhase := some 3 } }
    (∀ s ∈ [s0, station 1 4, s3], s.resetHeld = false ∧ s.line.activity = .idle ∧ s.line.stuck = false ∧
      s.line.activityMark = false) ∧
    ((run .firstActiveHalfBit s0).line.slots = .stopped) ∧
    (s0.nextSlot 0 ∧ 0 ≠ s0.ctl.rank) ∧ ((station 1 4).nextSlot 1 ∧ (station 1 4).choose = none) ∧
    (s3.nextSlot 0 ∧ 0 ≠ s3.ctl.rank) ∧
    (station 1 4).ctl.number.val < (station 1 4).ctl.count ∧
    (∀ x ∈ [none, some (0 : Fin 32), some 1, some 3], ∀ q, x = some q → q.val < (station 1 4).ctl.count) ∧
    [none, some (0 : Fin 32), some 1, some 3].map (fun x => ({ (station 1 4).ctl with last := x } : StationController).rank) =
      [1, 0, 3, 1] :=
  ⟨by decide +kernel, by decide +kernel, ⟨.inl ⟨⟨31, rfl⟩, rfl⟩, by decide +kernel⟩,
    ⟨.inr ⟨15, 0, rfl, rfl, rfl⟩, by decide +kernel⟩, ⟨.inr ⟨15, 3, rfl, rfl, rfl⟩, by decide +kernel⟩, by decide +kernel⟩

/-- The ANNOUNCE, a lane's frame and the BEACON at the own slot of phase 1. -/
theorem witness_SlotBeginsTheChosenFrame :
    let announce := { station 1 4 with sched := { (station 1 4).sched with pendingAnnounce := true } }
    let lane := withLane 6 (offering .queued) (station 1 4)
    let beacon := { station 1 4 with sched := { (station 1 4).sched with beaconDue := true } }
    (∀ s ∈ [announce, lane, beacon], s.resetHeld = false ∧ s.line.activity = .idle ∧ s.line.stuck = false ∧
      s.line.activityMark = false ∧ s.onLine = true ∧ s.ctl.sync = .synced ∧ s.sched.exchange = none) ∧
    announce.nextSlot announce.ctl.rank ∧ lane.nextSlot lane.ctl.rank ∧ beacon.nextSlot beacon.ctl.rank ∧
    announce.choose = some .announce ∧ lane.choose = some (.lane 6) ∧ beacon.choose = some .beacon :=
  ⟨by decide +kernel, .inr ⟨15, 0, rfl, rfl, rfl⟩, .inr ⟨15, 0, rfl, rfl, rfl⟩, .inr ⟨15, 0, rfl, rfl, rfl⟩,
    by decide +kernel, by decide +kernel, by decide +kernel⟩

/-- Each rule of R59 in turn; the rotation pointer is 7, so lane 0 has place 0 and lane 7 place 7. -/
theorem witness_SchedulerChoosesByFiveRules :
    let two (x : LaneState) := withLane 0 (offering x) (withLane 7 (offering x) (station 1 4))
    let remarked := { two .queued with sched := { (two .queued).sched with reoffer := some 7 } }
    ({ (station 1 4).sched with pendingAnnounce := true } : Scheduler).pendingAnnounce = true ∧
    (remarked.sched.pendingAnnounce = false ∧ remarked.sched.reoffer = some 7 ∧ remarked.offersFrame 7 = true) ∧
    ((two .cancelling).sched.reoffer = none ∧ (two .cancelling).offersCancel 0 = true ∧
      ∀ j, (two .cancelling).offersCancel j = true → turnPlace 7 0 ≤ turnPlace 7 j) ∧
    ((∀ j, (two .queued).offersCancel j = false) ∧ (two .queued).offersFrame 0 = true ∧
      ∀ j, (two .queued).offersFrame j = true → turnPlace 7 0 ≤ turnPlace 7 j) ∧
    ((∀ j, (station 1 4).offersCancel j = false) ∧ (∀ j, (station 1 4).offersFrame j = false) ∧
      (station 1 4).sched.reoffer = none) ∧
    ((station 1 4).resetHeld = false ∧ (station 1 4).line.activity = .idle ∧ (station 1 4).line.stuck = false ∧
      (station 1 4).line.activityMark = false ∧ (station 1 4).onLine = true ∧ (station 1 4).ctl.sync = .synced) ∧
    (two .queued).nextSlot (two .queued).ctl.rank ∧ (two .queued).sched.exchange = none ∧
    (two .queued).choose = some (.lane 0) ∧ (station 1 4).nextSlot (station 1 4).ctl.rank ∧
    (station 1 4).choose = none :=
  ⟨by decide +kernel, by decide +kernel, by decide +kernel, by decide +kernel, by decide +kernel, by decide +kernel,
    .inr ⟨15, 0, rfl, rfl, rfl⟩, by decide +kernel, by decide +kernel, .inr ⟨15, 0, rfl, rfl, rfl⟩, by decide +kernel⟩

/-- A reply with 16 words on a released line; on an active line; at a station off the line; with a take in progress. -/
theorem witness_ReplyBeginsOrIsDropped :
    let r : PendingReply :=
      { request := { h0 := 0x5001, h1 := 0x0802, h2 := 0, h3 := 15 }, code := .accepted, words := payload 16, waited := 7 }
    let owing (s : State) := { s with line := { s.line with reply := some r } }
    (∀ s ∈ [owing (station 1 4), owing (hearing .contention (station 1 4)), owing (offLine .offline)],
      s.resetHeld = false ∧ s.line.reply = some r) ∧
    (owing (station 1 4)).line.released = true ∧ (owing (station 1 4)).line.stuck = false ∧
    (owing (station 1 4)).onLine = true ∧ (owing (station 1 4)).mem.take = none ∧ r.words.length ≤ 16 ∧
    (owing (withClaims (some (windowTake [1] true)) [] (station 1 4))).mem.take ≠ none ∧
    (owing (hearing .contention (station 1 4))).line.released = false ∧ (owing (offLine .offline)).onLine = false := by
  decide +kernel

theorem witness_OwnFrameCompletes :
    (∀ s ∈ [driving .reply (head .reply 2 false 0 0 0) (station 1 4), driving .contention (stationHead .beacon) (station 1 4),
        driving .contention (stationHead .beacon) (offLine .offline)],
      s.resetHeld = false ∧ s.line.activity = .sending ∧ s.line.frameOver = false ∧ s.line.tx.isSome = true) ∧
    (driving .reply (head .reply 2 false 0 0 0) (station 1 4)).line.tx.map (·.frameClass) = some .reply ∧
    (driving .contention (stationHead .beacon) (station 1 4)).line.tx.map (·.frameClass) = some .contention ∧
    (driving .contention (stationHead .beacon) (station 1 4)).onLine = true ∧
    (driving .contention (stationHead .beacon) (offLine .offline)).onLine = false := by
  decide +kernel

/-- Each timer one short of its limit, stopped, and held at it. -/
theorem witness_SilenceBeaconAndHoldTimers :
    let s (n m : Nat) := { station 1 4 with ctl := { (station 1 4).ctl with silence := some n, beacon := some m } }
    let held (n : Nat) := withLane 7 { offering .held with hold := some n } (station 1 4)
    (s 32767 16383).resetHeld = false ∧ (s 32767 16383).ctl.silence = some 32767 ∧
      (s 32766 16383).ctl.silence ≠ some 32767 ∧ (s 32768 16383).ctl.silence ≠ some 32767 ∧
      (offLine .offline).ctl.silence = none ∧ (s 0 16383).ctl.beacon = some 16383 ∧
      (s 0 16384).ctl.beacon ≠ some 16383 ∧ (s 0 0).ctl.beacon ≠ some 16383 ∧ (offLine .offline).ctl.beacon = none ∧
      (offLine .offline).resetHeld = false ∧ (held 2047).lanes[(7 : Fin 8)].state = .held ∧
      (held 2047).lanes[(7 : Fin 8)].hold = some 2047 ∧ (held 2046).lanes[(7 : Fin 8)].hold = some 2046 ∧
      (station 1 4).lanes[(7 : Fin 8)].state ≠ .held := by
  decide +kernel

/-- A context and a record one bit time before their limits and at them; a free entry, a record that is not PRESENT. -/
theorem witness_ContextAndPresenceTimeouts :
    let s := withContext { context 1 with age := 262143 } (station 5 8)
    let t := { station 0 4 with
      presence := (PresenceTable.reset.setRecord 3 { state := .present, epoch := some 5, heard := some 65535 }).setRecord 2
        { state := .present, epoch := some 5, heard := some 65534 } }
    s.resetHeld = false ∧ s.settleTake.recv.contexts[(0 : Fin 12)] = some { context 1 with age := 262143 } ∧
      (withContext { context 1 with age := 262142 } s).recv.contexts[(0 : Fin 12)].map (·.age) = some 262142 ∧
      s.recv.contexts[(11 : Fin 12)] = none ∧ t.presence.records[(3 : Fin 32)].heard = some 65535 ∧
      t.presence.records[(2 : Fin 32)].heard = some 65534 ∧
      t.resetHeld = false ∧ t.onLine = true ∧ (3 : Fin 32) ≠ t.ctl.number ∧
      t.presence.records[(3 : Fin 32)].state = .present ∧ (offLine .offline).onLine = false ∧
      t.presence.records[(1 : Fin 32)].state ≠ .present := by
  decide +kernel

theorem witness_WaitRequestIsTaken :
    let s := withLane 2 (waitLane .working .waitRequest) (station 6 8)
    let t := { s with flags := { s.flags with flags := 0x10 } }
    (∀ x ∈ [s, t], x.resetHeld = false ∧ x.lanes[(2 : Fin 8)].state = .working ∧
      x.lanes[(2 : Fin 8)].job = .waitRequest ∧ x.lanes[(2 : Fin 8)].flag = 4) ∧
    s.flags.isSet 4 = false ∧ t.flags.isSet 4 = true := by
  decide +kernel

theorem witness_WaitsExpireAndAreRemoved :
    let w := { waitLane .waiting .none with wait := some 499 }
    let s := withList [(2, true)] (withLane 2 w (station 6 8))
    let handed := { w with wait := none, expiryHanded := true, removalHanded := true }
    let listed := withList [(2, true)] (withLane 2 handed (station 6 8))
    let unlisted := withLane 2 handed (station 6 8)
    s.resetHeld = false ∧ s.lanes[(2 : Fin 8)].state = .waiting ∧ s.lanes[(2 : Fin 8)].wait = some 499 ∧
      s.lanes[(2 : Fin 8)].copy[3].toNat ≤ 499 + 1 ∧ 498 + 1 < s.lanes[(2 : Fin 8)].copy[3].toNat ∧
      s.lanes[(3 : Fin 8)].state ≠ .waiting ∧ s.lanes[(2 : Fin 8)].expiryHanded = false ∧
      s.lanes[(2 : Fin 8)].removalHanded = false ∧ listed.lanes[(2 : Fin 8)].expiryHanded = true ∧
      listed.lanes[(2 : Fin 8)].removalHanded = true ∧ 0 < listed.timesListed 2 listed.lanes[(2 : Fin 8)].flag ∧
      unlisted.lanes[(2 : Fin 8)].expiryHanded = true ∧ unlisted.lanes[(2 : Fin 8)].removalHanded = true ∧
      unlisted.timesListed 2 unlisted.lanes[(2 : Fin 8)].flag = 0 := by
  decide +kernel

/-- The list 1c, 3, 5c of Table 6.3; a list with no consumer; an entry behind a consumer; a set flag. -/
theorem witness_SettingAFlagReleasesWaiters :
    let e (i : Fin 8) (c : Bool) : WaitEntry := { lane := i, consume := c }
    let s := withList [(1, true), (3, false), (5, true)] (station 6 8)
    let t := withList [(1, false), (3, false)] (station 6 8)
    s.flags.isSet 4 = false ∧ s.flags.lists[(4 : Fin 32)] = [] ++ e 1 true :: [e 3 false, e 5 true] ∧
      (∀ x ∈ ([] : List WaitEntry), x.consume = false) ∧ (∀ x ∈ t.flags.lists[(4 : Fin 32)], x.consume = false) ∧
      s.flags.lists[(4 : Fin 32)] = [e 1 true] ++ e 3 false :: [e 5 true] ∧
      s.flags.lists[(4 : Fin 32)] = [e 1 true, e 3 false] ++ e 5 true :: [] ∧
      (∃ x ∈ [e 1 true, e 3 false], x.consume = true) ∧ ({ FlagUnit.reset with flags := 0x10 } : FlagUnit).isSet 4 = true := by
  decide +kernel

theorem witness_FlagRequestIsTaken :
    let s (d2 : Word) := withLane 2 (laneOf .working .flagRequest 0x6001 0 d2 0 0 0) (station 6 8)
    (∀ x ∈ [s 0x8009, s 0x0009], x.resetHeld = false ∧ x.lanes[(2 : Fin 8)].state = .working ∧
      x.lanes[(2 : Fin 8)].job = .flagRequest) ∧
    (s 0x8009).lanes[(2 : Fin 8)].setsFlag = true ∧ (s 0x0009).lanes[(2 : Fin 8)].setsFlag = false := by
  decide +kernel

/-- A take's claim before its last word and at it, of a store and of a fetch; a host claim that waits, of each kind; no
claim; claims of lanes 0 and 7 with the pointer at 7, the fetch of lane 0 at the highest descriptor address. -/
theorem witness_LaneClaimsAreServedInTurn :
    let l (k : Fin 8) := { sendLane .working (.fetch k) with address := 16376 }
    let s := withLane 7 (l 0) (withLane 0 (l 7) (station 0 2))
    let line (rest : List Word) := withClaims (some (windowTake rest true)) [.write 16383 1] s
    let fetch (n : Nat) : LineTake := { address := 16383, work := .fetch n [], claimed := true }
    ((line [1]).resetHeld = false ∧ (line [1]).mem.lineClaims = true ∧ (line [1, 2]).mem.lineClaims = true ∧
      (line [1]).mem.take = some (windowTake [1] true) ∧ (windowTake [1, 2] true).work = .store (1 :: [2]) (.window 7 2) ∧
      (withClaims (some (fetch 1)) [] s).mem.lineClaims = true ∧ (fetch 1).work = .fetch (0 + 1) [] ∧
      (fetch 1).work.remaining ≤ 1) ∧
    (∀ c ∈ [HostClaim.write 16383 1, .read 16389 true, .read 0 false],
      let x := withClaims (some (windowTake [1] false)) [c, .write 0 0] s
      x.resetHeld = false ∧ x.mem.lineClaims = false ∧ x.host.claims = c :: [.write 0 0]) ∧
    s.hostPathFree = true ∧ (station 0 2).hostPathFree = true ∧
    (station 0 2).resetHeld = false ∧ (∀ i : Fin 8, (station 0 2).lanes[i].claims = false) ∧ s.resetHeld = false ∧
      s.lanes[(0 : Fin 8)].claims = true ∧
      (∀ j : Fin 8, s.lanes[j].claims = true → turnPlace s.mem.lanePointer 0 ≤ turnPlace s.mem.lanePointer j) ∧
      s.lanes[(0 : Fin 8)].job = .fetch 7 ∧ s.lanes[(0 : Fin 8)].address + 7 < 16384 := by
  decide +kernel

/-- Station 0 of 2 with lane 0 at the end of a fetch at the highest descriptor address. -/
def fetchedLane (l : Lane) (p : Participation) (peer : Presence) : State :=
  let s := withLane 0 { l with address := 16376, job := .markInProgress } (station 0 2)
  { s with
    ctl := { s.ctl with participation := p }
    presence := PresenceTable.reset.setRecord 1 { state := peer, epoch := none, heard := none } }

/-- One descriptor for each clause: stopped, bad, off the line, to an absent peer, and of each kind. -/
theorem witness_FetchEndsInProgress :
    let l (d0 d2 d4 : Word) := laneOf .working .none d0 0 d2 0 d4 0
    let at0 (s : State) := s.lanes[(0 : Fin 8)]
    let send := l 0x1000 0x0800 1
    (∀ x ∈ [send, { send with stopMark := true }, l 0 0 0, l 0x2000 0x0800 16, l 0x3000 0x0800 16, l 0x4000 0x0800 0,
        l 0x4000 0x0400 0, l 0x5000 0 0, l 0x6000 0 0, l 0x7000 0 0],
      let s := fetchedLane x .active .present
      s.resetHeld = false ∧ s.nextClaim = some 0 ∧ (at0 s).job = .markInProgress ∧ (at0 s).address ≤ 16376 ∧
        s.ctl.participation = .active ∧ s.presence.records[(at0 s).destination].state ≠ .absent) ∧
    (at0 (fetchedLane { send with stopMark := true } .active .present)).stopMark = true ∧
    (l 0 0 0).bad (station 0 2).ctl = true ∧
    (∀ x ∈ [send, l 0x2000 0x0800 16, l 0x3000 0x0800 16, l 0x4000 0x0800 0, l 0x4000 0x0400 0, l 0x5000 0 0, l 0x6000 0 0,
      l 0x7000 0 0], x.stopMark = false ∧ x.bad (station 0 2).ctl = false) ∧
    send.lineDescriptor = true ∧ (fetchedLane send .leaving .present).ctl.participation ≠ .active ∧
    (fetchedLane send .leaving .present).nextClaim = some 0 ∧
    (fetchedLane send .active .absent).presence.records[send.destination].state = .absent ∧
    (l 0x2000 0x0800 16).kind = some .read ∧ (l 0x3000 0x0800 16).kind = some .write ∧
    ((l 0x4000 0x0800 0).kind = some .signal ∧ (l 0x4000 0x0800 0).all = false) ∧
    ((l 0x4000 0x0400 0).kind = some .signal ∧ (l 0x4000 0x0400 0).all = true) ∧
    (l 0x5000 0 0).kind = some .wait ∧ (l 0x6000 0 0).kind = some .flag ∧ (l 0x7000 0 0).kind = some .note := by
  decide +kernel

/-- Each bound of R78 met and missed by one: length, range, destination, window, alternate link. -/
theorem witness_BadDescriptors :
    let c := (station 0 2).ctl
    let l (d0 d2 d3 d4 : Word) := laneOf .working .none d0 0 d2 d3 d4 0
    (l 0 0 0 0).kind = none ∧ (l 0x1000 0x0800 14336 2048).bad c = false ∧ (l 0x1000 0x0800 14337 2048).bad c = true ∧
      (l 0x1000 0x0800 0 2049).bad c = true ∧ (l 0x1000 0x0800 0 0).bad c = true ∧ (l 0x1000 0x1000 0 1).bad c = true ∧
      (l 0x1000 0 0 1).bad c = true ∧ (l 0x2000 0x09C0 16368 16).bad c = false ∧ (l 0x2000 0x0A00 0 16).bad c = true ∧
      (l 0x3000 0x0800 0 17).bad c = true ∧ (l 0x4000 0x0400 0 0).bad c = false ∧ (l 0x4000 0 0 0).bad c = true ∧
      (l 0x5000 0 0 16376).bad c = false ∧ (l 0x5000 0 0 16377).bad c = true ∧ (l 0x6000 0 0 0).kind = some .flag := by
  decide +kernel

/-- One word before the last, the last at the highest address of buffer memory, with and without a stop mark. -/
theorem witness_PayloadIsReadAndReadDataStored :
    let write := laneOf .working (.readPayload (payload 15)) 0x3000 0 0x0800 16368 16 0
    let send (n : Nat) := sendLane .working (.readPayload (payload n))
    let store := laneOf .working (.storeRead 15 [7]) 0x2000 0 0x0800 16368 16 0
    (∀ l ∈ [write, { write with stopMark := true }, send 30, send 31, store, { store with job := .storeRead 14 [6, 7] }],
      (withLane 0 l (station 0 2)).resetHeld = false ∧ (withLane 0 l (station 0 2)).nextClaim = some 0) ∧
    write.bufferAddress + 15 < 16384 ∧ write.length ≤ 16 ∧ write.kind = some .write ∧ write.stopMark = false ∧
    (send 31).bufferAddress + 32 * (send 31).segment + 31 < 16384 ∧ (send 31).length < 32 * ((send 31).segment + 1) + 32 ∧
    32 * ((send 31).segment + 1) ≤ (send 31).length ∧
    (send 31).kind = some .send ∧ (payload 31).length = 31 ∧ (payload 15).length = 15 ∧ store.bufferAddress + 15 < 16384 := by
  decide +kernel

theorem witness_StatusIsWrittenBack :
    let l (d0 : Word) (j : LaneJob) := { laneOf .working j d0 0 0x0800 0 1 0 with address := 16376 }
    (∀ x ∈ [l 0x1000 (.writeProgress .done), l 0x1000 (.writeStatus .done), l 0x1004 (.writeStatus .done),
        l 0x1000 (.writeStatus .refused)],
      (withLane 7 x (station 0 2)).resetHeld = false ∧ (withLane 7 x (station 0 2)).nextClaim = some 7 ∧
        x.address ≤ 16376) ∧
    Status.done.failure = false ∧ (l 0x1000 (.writeStatus .done)).notify = false ∧
    (l 0x1004 (.writeStatus .done)).notify = true ∧ Status.refused.failure = true := by
  decide +kernel

/-- Links at 16376 and 16377, next and alternate, and each earlier path. -/
theorem witness_PathsAfterADescriptor :
    let l (d0 d1 d4 : Word) := laneOf .working .none d0 d1 0 0 d4 0
    (l 0x5000 16376 0).copy[1].toNat ≤ 16376 ∧ 16376 < (l 0x5000 16377 0).copy[1].toNat ∧
      16376 < (l 0x5000 0 16377).copy[4].toNat ∧ (l 0x5000 0 0).stopAfter = false ∧ (l 0x5001 0 0).stopAfter = true ∧
      (l 0x5002 0 0).continueOnFailure = true ∧ (l 0x5000 0 0).continueOnFailure = false ∧
      Status.refused ≠ .badDescriptor ∧ Status.refused.failure = true ∧ Status.expired.failure = false ∧
      (l 0x5000 0 0).stopMark = false ∧ ({ l 0x5000 0 0 with stopMark := true } : Lane).stopMark = true := by
  decide +kernel

/-- A SEND in its exchange at its first and at its last segment, with patience and retries left and spent. -/
theorem witness_SendOutcomes :
    let l := offering .exchange
    (∀ x ∈ [l, { l with segment := 1, retries := 0, patience := 0 }, { l with unanswered := true }],
      x.kind = some .send ∧ x.stopMark = false ∧ x.cancelOwed = false) ∧
    ¬segmentCount l.length ≤ l.segment + 1 ∧ segmentCount l.length ≤ 1 + 1 ∧ 0 < l.retries ∧
    0 < ({ l with patience := 1 } : Lane).patience := by
  decide +kernel

theorem witness_RequestBroadcastAndCancelOutcomes :
    let l (d0 d2 : Word) := laneOf .exchange .none d0 0 d2 0 4 0
    (∀ x ∈ [l 0x2000 0x0800, l 0x3000 0x0800, l 0x4000 0x0800, l 0x4000 0x0400],
      x.cancelOwed = false ∧ x.stopMark = false) ∧
    (l 0x2000 0x0800).kind = some .read ∧ (payload 4).length = (l 0x2000 0x0800).length ∧
    (l 0x3000 0x0800).kind = some .write ∧ (l 0x4000 0x0800).kind = some .signal ∧ (l 0x4000 0x0800).all = false ∧
    (l 0x4000 0x0400).kind = some .signal ∧ (l 0x4000 0x0400).all = true ∧
    (ReplyCode.refusedDenied ≠ .accepted ∧ ReplyCode.refusedDenied ≠ .checkError) ∧
    ((offering .exchange).oweCancel .stopped).cancelOwed = true ∧
    ((offering .exchange).oweCancel .stopped).pendingStatus = some .stopped ∧
    (ExchangeOutcome.noReply ≠ .collision ∧ ExchangeOutcome.noReply ≠ .lineLost) := by
  decide +kernel

theorem witness_StoppedOutcomes :
    let send := { offering .exchange with stopMark := true }
    let l (d0 d2 : Word) := { laneOf .exchange .none d0 0 d2 0 4 0 with stopMark := true }
    ((∀ x ∈ [send, l 0x2000 0x0800, l 0x3000 0x0800, l 0x4000 0x0800, l 0x4000 0x0400],
        x.stopMark = true ∧ x.cancelOwed = false) ∧
      send.kind = some .send ∧ send.segment + 1 < segmentCount send.length ∧
      segmentCount send.length ≤ ({ send with segment := 1 } : Lane).segment + 1 ∧ (l 0x2000 0x0800).kind = some .read ∧
      (l 0x3000 0x0800).kind = some .write ∧ (l 0x4000 0x0800).all = false ∧ (l 0x4000 0x0400).all = true ∧
      ExchangeOutcome.collision ≠ .lineLost) ∧
    ∀ ws, ExchangeOutcome.collision ≠ .reply .accepted ws :=
  ⟨by decide +kernel, nofun⟩

/-- A full queue; nothing pending; one free entry and the first pending source after the pointer. -/
theorem witness_QueueTakesOneReport :
    let s := { popState with queue := fullQueue 63 1000 16 }
    popState.resetHeld = false ∧ 64 ≤ popState.queue.entries.length ∧
      (∀ pos, (station 1 4).sourcePending (sourceAt pos) = false) ∧ s.queue.entries.length < 64 ∧
      s.sourcePending (sourceAt 18) = true ∧
      (∀ q, s.sourcePending (sourceAt q) = true → sourcePlace s.queue.pointer 18 ≤ sourcePlace s.queue.pointer q) := by
  decide +kernel

/-- Every source pending: port 15, lanes with each kind of report, window 7, the two sets, the line state. -/
theorem witness_ReportsOfTheSources :
    let c := (context 2).completion .complete 70
    let r := ReceiveUnit.reset.complete 15 c
    let reporting (j : LaneJob) := { sendLane .reporting j with heldEvent := some ((sendLane .working .none).noteEvent 0) }
    let w := (Vector.replicate 8 Window.reset).set 7 { exampleWindow with pending := 1 }
    r.ports[(15 : Fin 16)].completions = [c] ∧
      (∀ j ∈ [LaneJob.afterNote, .afterDone .done, .afterEnded],
        (withLane 7 (reporting j) (station 1 4)).lanes[(7 : Fin 8)].heldEvent = (reporting j).heldEvent ∧
        (reporting j).heldEvent.isSome = true ∧ (withLane 7 (reporting j) (station 1 4)).lanes[(7 : Fin 8)].job = j) ∧
      0 < w[(7 : Fin 8)].pending ∧ ({ FlagUnit.reset with signalled := 1 } : FlagUnit).signalled ≠ 0 ∧
      popState.presence.changed ≠ 0 ∧ ((station 1 4).ctl.record .join).lineStatePending = true := by
  decide +kernel

/-- The fill's clause on lanes: a lane that holds no event, beside one that does. -/
theorem witness_FillEndsFullOrIdle :
    popState.lanes[(0 : Fin 8)].heldEvent = none ∧ popState.lanes[(2 : Fin 8)].heldEvent.isSome = true := by
  decide +kernel

theorem witness_HeadEntryIsShownAndPopped :
    let e : Entry := { event := { setEvent .signalled 1 with unit := 31, peer := 63, status := 255 }, timestamp := 0, serial := 0 }
    e.event.unit < 32 ∧ e.event.peer < 64 ∧ e.event.status < 256 ∧ (station 1 4).queue.entries = [] ∧
      (fullQueue 2 0 0).entries =
        { event := setEvent .signalled 1, timestamp := 0, serial := 0 } :: (fullQueue 1 0 0).entries ∧
      (station 1 4).resetHeld = false ∧ popState.resetHeld = false ∧ (station 1 4).hostPathFree = true ∧
      popState.hostPathFree = true := by
  decide +kernel

/-- The last word of buffer memory, the two ends of the control page, the first address above it; a line-side claim and a
host claim in the way. -/
theorem witness_HostWritesByAddress :
    (station 1 4).hostPathFree = true ∧
      (withClaims (some (windowTake [1] true)) [] (station 1 4)).hostPathFree = false ∧
      (withClaims (some (windowTake [1] false)) [] (station 1 4)).hostPathFree = true ∧
      (withClaims none [.read 16389 true] (station 1 4)).hostPathFree = false ∧ (station 1 4).resetHeld = false ∧
      (16383 : BitVec 15).toNat < 16384 ∧
      (16384 : BitVec 15).toNat = 16384 + (0 : BitVec 5).toNat ∧ (16415 : BitVec 15).toNat = 16384 + (31 : BitVec 5).toNat ∧
      16416 ≤ (16416 : BitVec 15).toNat := by
  decide +kernel

/-- Both owners; codes 0 and 256 (bits 7..0 zero) and 255; the read-only words at the ends of their ranges. -/
theorem witness_ControlPageWritesAndLatch :
    (station 1 4).resetHeld = false ∧ (station 1 4).hostPathFree = true ∧ (station 1 4).host.owner = .host ∧
      (withCommand 3 (Vector.replicate 6 0) (station 1 4)).hostPathFree = true ∧
      (withCommand 3 (Vector.replicate 6 0) (station 1 4)).host.owner = .station ∧ (256 : Word).toNat % 256 = 0 ∧
      (255 : Word).toNat % 256 ≠ 0 ∧ (2 : BitVec 5).toNat ≤ 2 ∧ 5 ≤ (5 : BitVec 5).toNat ∧ (15 : BitVec 5).toNat ≤ 15 ∧
      24 ≤ (24 : BitVec 5).toNat ∧ (4 : Word).getLsbD 2 = true ∧ (3 : Word).getLsbD 2 = false := by
  decide +kernel

theorem witness_ControlPageShowsTheState :
    (station 31 32).ctl.count ≤ 32 ∧ ({ station 31 32 with queue := fullQueue 64 0 0 } : State).queue.entries.length ≤ 64 := by
  decide +kernel

/-- JOIN outside OFFLINE; with each bad strap; with the highest station number of four. -/
theorem witness_JoinIsJudged :
    let s (n : Fin 32) (count : Nat) (p : Participation) :=
      withCommand 1 (Vector.replicate 6 0) { station n count with ctl := { (station n count).ctl with participation := p } }
    (∀ x ∈ [s 1 4 .active, s 0 1 .offline, s 4 4 .offline, s 3 4 .offline],
      x.resetHeld = false ∧ x.host.owner = .station ∧ x.host.code.toNat = 1) ∧
    (s 1 4 .active).ctl.participation ≠ .offline ∧ (s 0 1 .offline).ctl.count = 1 ∧
    (s 4 4 .offline).ctl.count ≤ (s 4 4 .offline).ctl.number.val ∧
    (s 3 4 .offline).ctl.number.val < (s 3 4 .offline).ctl.count ∧ (s 3 4 .offline).ctl.count ≠ 1 := by
  decide +kernel

/-- LEAVE and the drain test in each participation state, drained and with a lane at line work. -/
theorem witness_LeaveAndDrain :
    let s (p : Participation) :=
      withCommand 2 (Vector.replicate 6 0) { station 1 4 with ctl := { (station 1 4).ctl with participation := p } }
    let busy := withLane 1 (offering .queued) (s .active)
    (∀ x ∈ [s .offline, s .active, s .leaving, s .faulted, busy],
      x.resetHeld = false ∧ x.host.owner = .station ∧ x.host.code.toNat = 2) ∧
    ((∀ i : Fin 8, (s .active).lanes[i].lineWork = false ∧ (s .active).lanes[i].cancelOwed = false) ∧
      (s .active).sched.exchange = none) ∧
    ¬(∀ i : Fin 8, busy.lanes[i].lineWork = false ∧ busy.lanes[i].cancelOwed = false) ∧
    ((∀ i : Fin 8, (s .leaving).lanes[i].lineWork = false ∧ (s .leaving).lanes[i].cancelOwed = false) ∧
      (s .leaving).sched.exchange = none) ∧
    (s .leaving).ctl.participation = .leaving ∧ (s .active).ctl.participation ≠ .leaving := by
  decide +kernel

/-- Lanes at line work in each state that fails, lanes without, lanes that go on; the own record and a peer's. -/
theorem witness_EntryToOffline :
    let l (x : LaneState) (j : LaneJob) := { sendLane x j with lineWork := true }
    (∀ x ∈ [l .queued .none, l .cancelling .none, l .held .none, l .working (.readPayload [])], x.lineWork = true) ∧
    (l .working (.readPayload [])).job = .readPayload [] ∧ (l .exchange .none).state = .exchange ∧
    (sendLane .working .waitRequest).lineWork = false ∧ (1 : Fin 32) = (station 1 4).ctl.number ∧
    (0 : Fin 32) ≠ (station 1 4).ctl.number := by
  decide +kernel

/-- The parameters of each clause: lane 7 and 8, addresses 16376 and 16377, a lane in each state. -/
theorem witness_LaneCommands :
    let start (p0 p1 : Word) (s : State) := withCommand 3 #v[p0, p1, 0, 0, 0, 0] s
    let stop (p0 : Word) (s : State) := withCommand 4 #v[p0, 0, 0, 0, 0, 0] s
    let s (x : LaneState) := withLane 7 (offering x) (station 1 4)
    (∀ x ∈ [start 8 0 (station 1 4), start 7 16377 (station 1 4), start 7 16376 (s .working), start 7 16376 (station 1 4)],
      x.resetHeld = false ∧ x.host.owner = .station ∧ x.host.code.toNat = 3) ∧
    (∀ x ∈ [stop 8 (station 1 4), stop 7 (station 1 4), stop 7 (s .waiting), stop 7 (s .queued), stop 7 (s .exchange)],
      x.resetHeld = false ∧ x.host.owner = .station ∧ x.host.code.toNat = 4) ∧
    7 < (start 8 0 (station 1 4)).host.params[0].toNat ∧
    (start 7 16376 (station 1 4)).host.params[0].toNat = (7 : Fin 8).val ∧
    16376 < (start 7 16377 (station 1 4)).host.params[1].toNat ∧
    (start 7 16376 (station 1 4)).host.params[1].toNat ≤ 16376 ∧
    (start 7 16376 (station 1 4)).lanes[(7 : Fin 8)].state = .idle ∧ (s .working).lanes[(7 : Fin 8)].state ≠ .idle ∧
    (offering .queued).kind = some .send ∧ ¬1 ≤ (offering .queued).segment ∧
    1 ≤ ({ offering .queued with segment := 1 } : Lane).segment := by
  decide +kernel

/-- Ports 15 and 16; a buffer that ends at 16384 and one that ends above; capacities 0, 1, 2048, 2049; a full port. -/
theorem witness_PortCommands :
    let c (code : BitVec 8) (p0 p1 p2 : Word) (s : State) := withCommand code #v[p0, p1, p2, 0, 0, 0] s
    let full := withPorts (List.replicate 8 { address := 0, capacity := 1 }) (station 5 8)
    (∀ code ∈ [(5 : BitVec 8), 6, 7], (c code 15 14336 2048 full).resetHeld = false ∧
      (c code 15 14336 2048 full).host.owner = .station ∧ (c code 15 14336 2048 full).host.code = code) ∧
    (5 : BitVec 8).toNat = 5 ∧ (6 : BitVec 8).toNat = 6 ∧ (7 : BitVec 8).toNat = 7 ∧ 15 < (16 : Word).toNat ∧
    (15 : Word).toNat = (15 : Fin 16).val ∧ (14336 : Word).toNat + (2048 : Word).toNat ≤ 16384 ∧
    16384 < (14337 : Word).toNat + (2048 : Word).toNat ∧ 2048 < (2049 : Word).toNat ∧ (0 : Word).toNat < 1 ∧
    full.recv.bufferCount 3 = 8 ∧ full.recv.bufferCount 15 ≠ 8 := by
  decide +kernel

theorem witness_WindowCommands :
    let c (code : BitVec 8) (p0 p1 p2 : Word) := withCommand code #v[p0, p1, p2, 0, 0, 0] (station 2 8)
    ((c 8 7 0 1).resetHeld = false ∧ (c 8 7 0 1).host.owner = .station ∧ (c 8 7 0 1).host.code.toNat = 8) ∧
    ((c 9 7 0 1).resetHeld = false ∧ (c 9 7 0 1).host.owner = .station ∧ (c 9 7 0 1).host.code.toNat = 9) ∧
    7 < (c 8 8 0 1).host.params[0].toNat ∧ (c 8 7 0 1).host.params[0].toNat = (7 : Fin 8).val ∧
    (c 8 7 0 16384).host.params[1].toNat + (c 8 7 0 16384).host.params[2].toNat ≤ 16384 ∧
    16384 < (c 8 7 1 16384).host.params[1].toNat + (c 8 7 1 16384).host.params[2].toNat ∧
    1 ≤ (c 8 7 16383 1).host.params[2].toNat ∧ 16383 < (c 8 7 16384 1).host.params[1].toNat ∧
    (c 8 7 0 0).host.params[2].toNat < 1 := by
  decide +kernel

/-- Codes 10 to 13 and 255 waiting; a mask that names flags 31 and 4 and not flag 0; of the list 2c, 5c of flag 4 lane 2 is
released and lane 5 is not, and lane 0 is on no list; the owner HOST. -/
theorem witness_FlagCommandsAndTakes :
    let c (code : BitVec 8) :=
      withCommand code #v[0x10, 0x8000, 0, 0, 0, 0] (withList [(2, true), (5, true)] (station 2 8))
    (∀ code ∈ [(10 : BitVec 8), 11, 12, 13, 255], (c code).resetHeld = false ∧ (c code).host.owner = .station ∧
      (c code).host.code = code) ∧
    13 ≤ (13 : BitVec 8).toNat ∧ (13 : BitVec 8).toNat ≠ 1 ∧ (c 12).host.code.toNat < 13 ∧
    ((c 10).host.params[1] ++ (c 10).host.params[0]).getLsbD 4 = true ∧ (c 10).flags.isSet 4 = false ∧
    (c 10).flags.lists[(4 : Fin 32)] = [] ++ { lane := 2, consume := true } :: [{ lane := 5, consume := true }] ∧
    (∀ e ∈ ([] : List WaitEntry), e.consume = false) ∧
    (∃ e ∈ [({ lane := 2, consume := true } : WaitEntry)], e.consume = true) ∧
    ((c 10).host.params[1] ++ (c 10).host.params[0]).getLsbD 31 = true ∧
    ((c 10).host.params[1] ++ (c 10).host.params[0]).getLsbD 0 = false ∧
    (∀ f : Fin 32, ∀ e ∈ (c 10).flags.lists[f], e.lane ≠ 0) ∧ (station 2 8).host.owner = .host := by
  decide +kernel

/-- A header whose check fails. -/
def badWords : List Word := [0x3001, 0x0802, 1, 0x27, 0]

/-- No frame taken in; off the line; either class; a failed header at the fifteenth and the sixteenth failure. -/
theorem witness_HeadersTeachAndFail :
    let bad (n : Nat) (y : Sync) (k : FrameClass) :=
      hearing k { station 1 4 with ctl := { (station 1 4).ctl with badHeaders := n, sync := y } }
    (station 1 4).line.takingIn = false ∧ (hearing .contention (offLine .faulted)).line.takingIn = true ∧
      (hearing .contention (offLine .faulted)).onLine = false ∧ (hearing .reply (station 1 4)).line.rxClass = .reply ∧
      ((hearing .reply (station 1 4)).incoming (words 2 1 (head .reply 0 false 0 0 0) [])).header.kind = some .reply ∧
      ((hearing .reply (station 1 4)).incoming (words 2 1 (head .read 0 false 0 0 0) [])).header.kind ≠ some .reply ∧
      (∀ s ∈ [bad 14 .unsynced .contention, bad 15 .unsynced .reply, bad 0 .synced .reply, bad 15 .synced .contention],
        s.resetHeld = false ∧ s.line.takingIn = true ∧ s.onLine = true ∧ (s.incoming badWords).headerGood = false) ∧
      (bad 14 .unsynced .contention).ctl.badHeaders + 1 < 16 ∧ 16 ≤ (bad 15 .unsynced .reply).ctl.badHeaders + 1 := by
  decide +kernel

/-- A source that is the own number or is N; a peer first heard, heard again, and heard with a new epoch. -/
theorem witness_HeadersAreHeard :
    let s := hearing .contention { station 1 4 with
      presence := PresenceTable.reset.setRecord 3 { state := .present, epoch := some 9, heard := some 7 } }
    let h (source : Fin 32) (e : BitVec 4) := (s.incoming (words source e (stationHead .beacon) [])).header
    s.ctl.count ≤ (h 4 1).source.val ∧ (h 1 1).source = s.ctl.number ∧
      (h 3 9).source.val < s.ctl.count ∧ (h 3 9).source ≠ s.ctl.number ∧
      s.presence.records[(h 3 9).source].epoch = some (h 3 9).epoch ∧
      s.presence.records[(h 3 9).source].state = .present ∧ s.presence.records[(h 2 9).source].state ≠ .present ∧
      s.presence.records[(h 2 9).source].epoch = none ∧ s.presence.records[(h 3 10).source].epoch = some 9 ∧
      9 ≠ (h 3 10).epoch := by
  decide +kernel

/-- The deliveries of Table 3.7, each taken by an ACTIVE station from a frame being taken in. -/
theorem witness_DeliveriesAreJudgedInOrder :
    let s := hearing .contention (withPorts [] (station 5 8))
    let w (k : FrameKind) (dst : Fin 32) (all : Bool) (sel : Fin 32) (h2 h3 : Word) (n : Nat) :=
      words 3 1 (head k dst all sel h2 h3) (payload n)
    let d (ws : List Word) := s.incoming ws
    let goesOn (ws : List Word) :=
      (d ws).header.misplaced .contention = false ∧ (d ws).header.isFor 5 = true ∧ (d ws).header.malformed 8 = false
    (∀ ws ∈ [w .reply 5 false 0 0 0 0, w .write 7 false 2 0 3 4, w .read 5 false 9 0 0 0, w .beacon 0 true 0 0 0 0,
        w .cancel 5 false 0 0 0 1, w .signal 0 true 12 0 0 2],
      s.resetHeld = false ∧ s.line.activity = .receiving ∧ s.line.frameOver = false ∧ s.onLine = true ∧
        (d ws).headerGood = true) ∧
    (d (w .reply 5 false 0 0 0 0)).header.misplaced .contention = true ∧
    (d (w .write 7 false 2 0 3 4)).header.isFor 5 = false ∧
    ((d (w .read 5 false 9 0 0 0)).header.isFor 5 = true ∧ (d (w .read 5 false 9 0 0 0)).header.malformed 8 = true) ∧
    goesOn (w .beacon 0 true 0 0 0 0) ∧
    (goesOn (w .cancel 5 false 0 0 0 1) ∧ (d (w .cancel 5 false 0 0 0 1)).payloadFault = true) ∧
    (goesOn (w .signal 0 true 12 0 0 2) ∧ (d (w .signal 0 true 12 0 0 2)).payloadFault = true ∧
      (d (w .signal 0 true 12 0 0 2)).header.all = true) := by
  decide +kernel

/-- Segment `i` of message `m` of Table 7.6. -/
def segment (m : BitVec 8) (i : Nat) : List Word :=
  words 1 3 (head .data 5 false 3 (segmentWord m i) (lengthWord 70)) (payload (if i = 2 then 6 else 32))

theorem only_entry (i : Fin 12) (v : Vector (Option Context) 12) (h : ∀ j : Fin 12, j ≠ i → v[j] = none)
    (p q : Context → Prop) : ∀ (j : Fin 12) d, v[j] = some d → p d → q d → j = i := by
  intro j d hd _ _
  by_contra hj
  simp [h j hj] at hd

/-- Station 5 with the context of Table 7.6 awaiting segment 1: segment 0 is a repeat, 1 is awaited, 2 is later, and
segment 1 of message 18 is of another message; awaiting segment 2, that one completes; and a closed port. -/
theorem witness_DataAtAnOpenContext :
    let s (n : Nat) := hearing .contention (withContext (context n) (withPorts [] (station 5 8)))
    let closed := hearing .contention (station 5 8)
    ((∀ x ∈ [closed, s 1, s 2], ∀ ws ∈ [segment 17 0, segment 17 1, segment 17 2, segment 18 1],
      ((x.resetHeld = false ∧ x.line.activity = .receiving ∧ x.line.frameOver = false ∧ x.onLine = true ∧
        (x.incoming ws).headerGood = true) ∧ (x.incoming ws).header.misplaced .contention = false ∧
        (x.incoming ws).header.isFor 5 = true ∧ (x.incoming ws).header.malformed 8 = false ∧
        (x.incoming ws).payloadFault = false) ∧ (x.incoming ws).header.kind = some .data ∧
        (x.afterHeader ws).recv.contexts = x.recv.contexts) ∧
    closed.recv.ports[(3 : Fin 16)].isOpen = false ∧ (s 1).recv.ports[(3 : Fin 16)].isOpen = true ∧
    (s 1).recv.contexts[(0 : Fin 12)] = some (context 1) ∧ (context 1).source = 1 ∧ (context 1).lane = 4 ∧
    (∀ i ∈ [0, 1, 2], let h := ((s 1).incoming (segment 17 i)).header
      h.source = 1 ∧ h.sourceLane = 4 ∧ h.index = i ∧ h.message = 17 ∧ h.port = 3 ∧ h.messageLength = 70) ∧
    ((s 1).incoming (segment 18 1)).header.message ≠ (context 1).message ∧
    (context 2).buffer.address + 32 * (context 2).next + ((s 2).incoming (segment 17 2)).payload.length ≤ 16384 ∧
    (context 2).next + 1 = segmentCount (context 2).length ∧ (context 1).next + 1 ≠ segmentCount (context 1).length) ∧
    (∀ (j : Fin 12) d, (s 1).recv.contexts[j] = some d → d.source = 1 → d.lane = 4 → j = 0) :=
  ⟨by decide +kernel, only_entry 0 _ (by decide +kernel) (·.source = 1) (·.lane = 4)⟩

/-- Table 7.6, steps 1 and 3, and the other answers to a message with no context: completed before, a segment above 0,
a completion waiting, no buffer, no free entry (twelve other keys), a buffer too small and one that just holds it. -/
theorem witness_DataOpensAContext :
    let h := ((hearing .contention (station 5 8)).incoming (segment 17 0)).header
    let port (capacity : Nat) := (withPorts [{ address := 16384 - capacity, capacity := capacity }] (station 5 8)).recv
    let known := (withPorts [] (station 5 8)).recv.setStream 1 4 { epoch := 3, lastCompleted := 17 }
    let busy := { port 70 with contexts := Vector.replicate 12 (some { context 1 with source := 2 }) }
    let waiting := (port 70).complete 3 ((context 2).completion .complete 70)
    (∀ r ∈ [port 70, port 69, known, busy, waiting, (withPorts [] (station 5 8)).recv],
      let s := hearing .contention { station 5 8 with recv := r }
      ((s.resetHeld = false ∧ s.line.activity = .receiving ∧ s.line.frameOver = false ∧ s.onLine = true ∧
        (s.incoming (segment 17 0)).headerGood = true) ∧ (s.incoming (segment 17 0)).header.misplaced .contention = false ∧
        (s.incoming (segment 17 0)).header.isFor 5 = true ∧ (s.incoming (segment 17 0)).header.malformed 8 = false ∧
        (s.incoming (segment 17 0)).payloadFault = false) ∧ s.recv.ports[h.port].isOpen = true ∧
        (s.afterHeader (segment 17 0)).recv = r) ∧
    (h.kind = some .data ∧ h.source = 1 ∧ h.sourceLane = 4 ∧ h.epoch = 3 ∧ h.message = 17 ∧ h.port = 3 ∧ h.index = 0 ∧
      h.messageLength = 70) ∧
    known.stream 1 4 = some { epoch := 3, lastCompleted := 17 } ∧ (port 70).stream 1 4 = none ∧
    (∀ j : Fin 12, (port 70).contexts[j] = none) ∧ (∀ j : Fin 12, busy.contexts[j].map (·.source) = some 2) ∧
    waiting.ports[(3 : Fin 16)].completions ≠ [] ∧ (port 70).ports[(3 : Fin 16)].completions = [] ∧
    (port 70).ports[(3 : Fin 16)].posted = [{ address := 16314, capacity := 70 }] ∧ 16314 + 32 ≤ 16384 ∧
    (withPorts [] (station 5 8)).recv.ports[(3 : Fin 16)].posted = [] ∧ 69 < h.messageLength := by
  decide +kernel

/-- The context of message 16 is superseded by segment 0 of message 17. -/
theorem witness_DataOpensAContext_superseded :
    let c := { context 1 with message := 16 }
    let s := hearing .contention (withContext c (withPorts [] (station 5 8)))
    let h := (s.incoming (segment 17 0)).header
    ((s.afterHeader (segment 17 0)).recv.contexts[(0 : Fin 12)] = some c ∧ c.source = h.source ∧ c.lane = h.sourceLane ∧
      ¬(c.message = h.message ∧ c.port = h.port ∧ c.length = h.messageLength) ∧ h.index = 0) ∧
    (∀ (j : Fin 12) d, (s.afterHeader (segment 17 0)).recv.contexts[j] = some d → d.source = h.source →
      d.lane = h.sourceLane → j = 0) :=
  ⟨by decide +kernel, only_entry 0 _ (by decide +kernel) _ _⟩

/-- The requests of Table 8.3, and a READ that ends with the window. -/
theorem witness_RemoteReadAndWrite :
    let s (w : Window) := hearing .contention (windowStation w)
    let write (offset : Word) := words 4 1 (head .write 2 false 1 offset 7) (payload 8)
    let read (source : Fin 32) (offset : Word) := words source 1 (head .read 2 false 1 offset 3) []
    let off := { exampleWindow with enabled := false }
    (∀ w ∈ [exampleWindow, off], ∀ ws ∈ [write 0, write 56, write 57, read 5 0, read 6 60],
      ((s w).resetHeld = false ∧ (s w).line.activity = .receiving ∧ (s w).line.frameOver = false ∧ (s w).onLine = true ∧
        ((s w).incoming ws).headerGood = true) ∧ ((s w).incoming ws).header.misplaced .contention = false ∧
        ((s w).incoming ws).header.isFor 2 = true ∧ ((s w).incoming ws).header.malformed 8 = false ∧
        ((s w).incoming ws).payloadFault = false ∧ ((s w).incoming ws).header.window = 1) ∧
    ((s off).incoming (write 0)).header.kind = some .write ∧ off.enabled = false ∧
    exampleWindow.length < ((s off).incoming (write 57)).header.offset + ((s off).incoming (write 57)).header.wordCount ∧
    ((s off).incoming (write 56)).header.offset + ((s off).incoming (write 56)).header.wordCount ≤ exampleWindow.length ∧
    exampleWindow.peers.getLsbD ((s off).incoming (read 5 0)).header.source.val = false ∧
    exampleWindow.peers.getLsbD ((s off).incoming (read 6 60)).header.source.val = true ∧
    ((s off).incoming (read 6 60)).header.kind = some .read ∧ exampleWindow.readAllowed = true ∧
    ((s off).incoming (read 6 60)).header.offset + ((s off).incoming (read 6 60)).header.wordCount ≤ exampleWindow.length ∧
    exampleWindow.base + 64 ≤ 16384 := by
  decide +kernel

/-- Station 0 of 8 awaiting the reply to lane 4's READ of 4 words from window 1 of station 2. -/
def awaiting : State :=
  hearing .reply (inExchange (exchangeOf (.lane 4) (head .read 2 false 1 0 3) .awaiting none) (station 0 8))

/-- SIGNAL on an accepted flag and on another, addressed and broadcast; CANCEL with and without its context; a REPLY that
suits an exchange in AWAITING, one that does not, one with another phase, and one with no exchange open. -/
theorem witness_SignalCancelAndReply :
    let s := hearing .contention (withContext (context 1) (withPorts [] { station 5 8 with
      flags := { FlagUnit.reset with accept := 0x80000000 } }))
    let w (k : FrameKind) (all : Bool) (sel : Fin 32) (h2 : Word) := words 1 3 (head k 5 all sel h2 0) []
    let good := words 2 1 (head .reply 0 false 1 0 4) (payload 4)
    let bad := words 2 1 (head .reply 0 false 1 0 3) (payload 3)
    let silent := hearing .reply (station 0 8)
    let d (ws : List Word) := awaiting.incoming ws
    ((∀ ws ∈ [w .signal false 31 0, w .signal true 31 0, w .signal false 30 0, w .signal true 30 0,
        w .cancel false 3 (segmentWord 17 0), w .cancel false 3 (segmentWord 16 0)],
      (s.resetHeld = false ∧ s.line.activity = .receiving ∧ s.line.frameOver = false ∧ s.onLine = true ∧
        (s.incoming ws).headerGood = true) ∧ (s.incoming ws).header.misplaced .contention = false ∧
        (s.incoming ws).header.isFor 5 = true ∧ (s.incoming ws).header.malformed 8 = false ∧
        (s.incoming ws).payloadFault = false) ∧
      s.flags.accept.getLsbD 31 = true ∧ s.flags.accept.getLsbD 30 = false ∧
      (s.incoming (w .cancel false 3 (segmentWord 17 0))).header.message = (context 1).message ∧
      (s.incoming (w .cancel false 3 (segmentWord 17 0))).header.port = (context 1).port ∧
      (s.incoming (w .cancel false 3 (segmentWord 16 0))).header.message ≠ (context 1).message) ∧
    ((∀ x ∈ [awaiting, silent], ∀ ws ∈ [good, bad],
        (x.resetHeld = false ∧ x.line.activity = .receiving ∧ x.line.frameOver = false ∧ x.onLine = true ∧
          (x.incoming ws).headerGood = true) ∧ (x.incoming ws).header.kind = some .reply ∧
          (x.incoming ws).header.misplaced x.line.rxClass = false ∧ (x.incoming ws).header.isFor x.ctl.number = true ∧
          (x.incoming ws).header.malformed x.ctl.count = false) ∧
      silent.sched.exchange = none ∧ awaiting.sched.exchange.map (·.phase) = some .awaiting ∧
      (d good).header.replyCode = ReplyCode.accepted.code ∧ (d good).payloadGood = true ∧ (d good).payload.length ≤ 16 ∧
      (d good).header.replyCount = (d good).payload.length ∧
      awaiting.sched.exchange.map (·.suited .accepted (d good).payload.length) = some true ∧
      awaiting.sched.exchange.map (·.suited .accepted (d bad).payload.length) = some false ∧
      (∀ h ∈ [(d good).header, (d bad).header], h.source = 2 ∧ h.sourceLane = 4 ∧ h.selector = 1 ∧ h.h2 = 0)) ∧
    (inExchange (exchangeOf (.lane 4) (head .read 2 false 1 0 3) .decided (some .noReply)) silent).sched.exchange.map
      (·.phase) ≠ some .awaiting := by
  decide +kernel

/-- A frame at its last bit time and past it; no frame, a jam, an idle line; the highest segment index, length, word count
and reply payload. -/
theorem witness_FramesAreTakenInAsSent :
    let h (h2 h3 : Word) : Header := { h0 := 0x3001, h1 := 0x0802, h2 := h2, h3 := h3 }
    let f : Transmission := { frameClass := .contention, header := h 0 0, payload := payload 32 }
    let x (a : LineActivity) (f : Option Transmission) (t : Nat) : LineInterface :=
      { LineInterface.reset with activity := a, tx := f, txTime := t }
    (f.time = 620 ∧ (x .sending (some f) 619).activity = .sending ∧ (x .sending (some f) 619).tx = some f ∧
      (x .sending (some f) 619).txTime < f.time ∧ f.time ≤ (x .sending (some f) 620).txTime ∧
      (x .sending none 0).tx = none ∧ (x .jamming none 0).activity = .jamming ∧
      (x .idle none 0).activity ≠ .sending ∧ (x .idle none 0).activity ≠ .jamming) ∧
    (payload 32).length ≤ 32 ∧ (h (segmentWord 255 63) (lengthWord 2048)).h2 = segmentWord 255 63 ∧ 63 < 64 ∧
      (h (segmentWord 255 63) (lengthWord 2048)).h3 = lengthWord 2048 ∧ (h 0 (countWord 16)).h3 = countWord 16 ∧
      (h 0 (replyWord .refusedMalformed 16)).h3 = replyWord .refusedMalformed 16 := by
  decide +kernel

/-- What a step leaves of participation, sync and reason. -/
def standing (c : Instr) (s : State) : Option (Participation × Sync × Reason) :=
  (stepTo c s).map fun t => (t.ctl.participation, t.ctl.sync, t.ctl.reason)

/-- LEAVE waiting at a station in this participation state. -/
def leaving (p : Participation) : State :=
  withCommand 2 (Vector.replicate 6 0) { station 1 4 with ctl := { (station 1 4).ctl with participation := p } }

/-- Steps that change participation, with the reasons they record. -/
theorem witness_ParticipationChangesAsListed :
    standing .join (withCommand 1 (Vector.replicate 6 0) (offLine .offline)) = some (.active, .unsynced, .join) ∧
      standing .leave (withLane 1 (offering .queued) (leaving .active)) = some (.leaving, .synced, .leave) ∧
      standing .leave (leaving .active) = some (.offline, .unsynced, .drained) ∧
      standing .drainComplete (leaving .leaving) = some (.offline, .unsynced, .drained) ∧
      standing .leave (leaving .leaving) = some (.offline, .unsynced, .forced) ∧
      standing .readBackMismatch (driving .contention (stationHead .beacon)
          { station 1 4 with ctl := { (station 1 4).ctl with ownCollisions := 2 } }) =
        some (.faulted, .unsynced, .duplicateStation) ∧
      standing (.frameDelivery ⟨badWords, none⟩) (hearing .contention
          { unsynced with ctl := { unsynced.ctl with badHeaders := 15 } }) = some (.faulted, .unsynced, .lineUnusable) := by
  decide +kernel

/-- Steps that change sync alone, with the reasons they record; an empty queue. -/
theorem witness_ParticipationChangesAsListed_sync :
    standing (.frameDelivery ⟨words 2 1 (stationHead .beacon) [], none⟩) (hearing .contention unsynced) =
        some (.active, .synced, .heard) ∧
      standing .lineDisturbance (hearing .contention unsynced) = some (.active, .synced, .collision) ∧
      standing .silenceTimerExpiry { unsynced with ctl := { unsynced.ctl with silence := some 32767 } } =
        some (.active, .synced, .silence) ∧
      standing (.frameDelivery ⟨badWords, none⟩) (hearing .contention (station 1 4)) = some (.active, .unsynced, .header) ∧
      standing .stuckCondition (hearing .contention (station 1 4)) = some (.active, .unsynced, .stuck) ∧
      (station 1 4).pending = [] := by
  decide +kernel

/-- Commands other than the resets that answer a next state, named by a clause and not. -/
theorem witness_OnlyTheNamedCommandsChange :
    ∀ c ∈ [Instr.resetRelease 0 0 0, .join, .setFlags, .slotStart, .frameDelivery ⟨[], none⟩, .laneWordAccess, .loadWindow,
        .writeInterruptEnables 1, .controlPageWrite 3 1, .hostMemoryWrite 16387 (.write 1), .commandWordWrite 3,
        .writeCauses 1, .queueTake],
      (stepTo c (station 1 4)).isSome = true ∧ c ≠ .powerOnReset ∧ c ≠ .pinReset := by
  decide +kernel

/-- A word that changes in each of the ways; in the later words of a take, with its claim served, and with the take completed
before another event. -/
theorem witness_MemoryIsChangedOnlyByItsOwners :
    let word (c : Instr) (s : State) (a : Nat) := (stepTo c s).map fun t => (s.word a, t.word a)
    let lane := withLane 0 (sendLane .working (.writeStatus .done)) (station 0 2)
    let s := run (.hostMemoryWrite 16383 (.write 5)) (station 1 4)
    word .powerOnReset s 16383 = some (5, 0) ∧ word (.hostMemoryWrite 16383 (.write 5)) (station 1 4) 16383 = some (0, 5) ∧
      word .laneWordAccess lane 107 = some (0, 2) ∧
      word .laneWordAccess (withClaims (some (windowTake [3] true)) [] s) 16383 = some (5, 3) ∧
      word .laneWordAccess (withClaims none [.write 16383 4] s) 16383 = some (5, 4) ∧
      word (.contextTimerExpiry 0) (withClaims (some (windowTake [3] false)) [] (withContext
        { context 1 with age := 262143 } s)) 16383 = some (5, 3) ∧
      word (.frameDelivery ⟨words 4 1 (head .write 2 false 1 0 7) (payload 8), none⟩)
        (hearing .contention (windowStation exampleWindow)) 12007 = some (0, 8) ∧
      word (.frameDelivery ⟨segment 17 0, some 32⟩)
        (hearing .contention (withPorts [{ address := 8192, capacity := 128 }] (station 5 8))) 8223 = some (0, 32) := by
  decide +kernel

/-- A state with a full queue, a full port, words in memory and a waiting lane meets the five conditions, and steps; and
so does one off the line. -/
theorem witness_EveryStepKeepsTheBounds :
    let s := run (.hostMemoryWrite 16383 (.write 5)) (withList [(1, false)] (withLane 1 (waitLane .waiting .none)
      (withPorts (List.replicate 8 { address := 0, capacity := 1 }) { station 5 8 with queue := fullQueue 64 0 0 })))
    let off := offLine .faulted
    (s.mem.wf = true ∧ s.mem.take = none ∧ s.queue.entries.length ≤ 64 ∧ (∀ p : Fin 16, s.recv.bufferCount p ≤ 8) ∧
      (∀ f : Fin 32, s.flags.isSet f = true → s.flags.lists[f] = []) ∧ (stepTo .slotStart s).isSome = true) ∧
    (off.onLine = false ∧ off.ctl.sync = .unsynced ∧ off.ctl.last = none ∧ off.ctl.silence = none ∧
      off.ctl.beacon = none ∧ off.sched.pendingAnnounce = false ∧ off.sched.beaconDue = false ∧ off.line.reply = none ∧
      off.mem.take = none ∧ (∀ i : Fin 12, off.recv.contexts[i] = none) ∧ (stepTo .slotStart off).isSome = true) := by
  decide +kernel

/-- A lane reading its payload beside a lane waiting on flag 4, an open context whose next segment is being stored, and a
loaded window. -/
def accessing : State :=
  let take : LineTake := { address := 8225, work := .store (payload 31) (.segment 0 (context 2) false), claimed := false }
  withClaims (some take) []
    { withContext (context 1) (withList [(2, true)] (withLane 2 (waitLane .waiting .none) (withLane 0
        { sendLane .working (.readPayload (payload 31)) with validated := true } (station 5 8)))) with
      windows := (station 5 8).windows.set 1 exampleWindow }

theorem witness_EveryStepKeepsAccessesInside : accessing.accessesInside ∧ (stepTo .laneWordAccess accessing).isSome = true := by
  have hc (j : Fin 12) : accessing.recv.contexts[j] = if j = 0 then some (context 1) else none := by
    revert j; decide +kernel
  refine ⟨⟨⟨?_, ?_, fun x h => ?_⟩, ⟨?_, fun i c h => ?_, fun i j c d hi hj _ _ => ?_, fun k rest i c opens hk hw => ?_⟩, ?_,
    fun i => ?_⟩, by decide +kernel⟩
  · unfold State.waitersListed; decide +kernel
  · unfold State.holdersReport; decide +kernel
  · have hx : accessing.sched.exchange = none := rfl
    rw [hx] at h
    cases h
  · unfold Buffer.inside; decide +kernel
  · rw [hc] at h
    split at h
    · cases h; unfold Context.consistent Buffer.inside; decide +kernel
    · cases h
  · rw [hc] at hi hj
    split at hi <;> split at hj <;> simp_all
  · cases hk
    cases hw
    refine ⟨.inr (by unfold Context.consistent Buffer.inside; decide +kernel), ?_⟩
    exact ⟨context 1, by rw [hc]; rfl, rfl, rfl, rfl, rfl⟩
  · unfold State.windowsInside; decide +kernel
  · have h : accessing.lanes[i] = if i = 0 then { sendLane .working (.readPayload (payload 31)) with validated := true }
        else if i = 2 then waitLane .waiting .none else Lane.reset := by revert i; decide +kernel
    rw [h]
    unfold Lane.accessesInside Lane.copyInside
    split
    · refine ⟨by decide +kernel, by decide +kernel, by decide +kernel, ?_⟩
      exact ⟨rfl, by decide +kernel, by decide +kernel⟩
    split
    · exact ⟨by decide +kernel, by decide +kernel, by decide +kernel, trivial⟩
    · exact ⟨by decide +kernel, by decide +kernel, by decide +kernel, trivial⟩

end Sys2Proof.Tests
end

section
/-! Line events: what each event of the line interface does while reset is not held (R19, log 6). -/

namespace Sys2Proof.Machine

/-! ### What a running event answers -/

theorem exec_firstActiveHalfBit {s : State} (h : s.resetHeld = false) :
    exec .firstActiveHalfBit s = .next
      (if s.line.released ∧ s.line.stuck = false then { s with line := s.line.hear, ctl := s.ctl.activity } else s) :=
  event_running h _

theorem exec_lineDisturbance {s : State} (h : s.resetHeld = false) :
    exec .lineDisturbance s = .next
      (if s.line.takingIn then
        ({ s with line := s.line.disturb, ctl := s.ctl.activity } : State).observedCollision.fill
      else s) :=
  event_running h _

theorem exec_jamEnd {s : State} (h : s.resetHeld = false) (released : Bool) :
    exec (.jamEnd released) s = .next
      (if s.line.activity = .jamming then
        { s with line := if released then s.line.goIdle 0 else s.line.disturb, ctl := s.ctl.activity }
      else s) :=
  event_running h _

theorem exec_lineIdle {s : State} (h : s.resetHeld = false) :
    exec .lineIdle s = .next { s with line := s.line.idleBitTime, ctl := s.ctl.idleBitTime s.line } := by
  show execLineIdle s = _
  rw [execLineIdle, event_running h]

theorem exec_stuckCondition {s : State} (h : s.resetHeld = false) :
    exec .stuckCondition s = .next
      (if s.line.running ∧ s.line.stuck = false then
        ({ s with
          line := s.line.beginStuck
          ctl := s.ctl.activity
          sched := s.sched.mapExchange ExchangeRecord.stuck } : State).stuckNotice.fill
      else s) :=
  event_running h _

theorem exec_stuckConditionEnd {s : State} (h : s.resetHeld = false) :
    exec .stuckConditionEnd s = .next
      (if s.line.stuck then { s with line := s.line.endStuck, ctl := s.ctl.idleBitTime s.line } else s) :=
  event_running h _

theorem exec_exchangeEnd {s : State} (h : s.resetHeld = false) :
    exec .exchangeEnd s = .next
      (if s.line.released ∧ s.line.stuck = false ∧ s.line.activityMark then
        (({ s with line := s.line.exchangeEnds } : State).closeExchange).fill
      else s) :=
  event_running h _

theorem exec_slotStart {s : State} (h : s.resetHeld = false) :
    exec .slotStart s = .next
      (if s.line.activity = .idle ∧ s.line.stuck = false ∧ s.line.activityMark = false ∧ s.line.slots ≠ .stopped then
        s.slotStarts
      else s) :=
  event_running h _

/-- The event of a driven frame acts on the frame while it is being driven. -/
theorem exec_ownFrameCompletion {s : State} {f : Transmission} (h : s.resetHeld = false)
    (hd : s.line.driving = true) (hf : s.line.tx = some f) :
    exec .ownFrameCompletion s = .next (s.ownFrameEnds f) := by
  refine (event_running h _).trans ?_
  simp only [hd, hf, if_true]

theorem exec_readBackMismatch {s : State} {f : Transmission} (h : s.resetHeld = false)
    (hd : s.line.driving = true) (hf : s.line.tx = some f) :
    exec .readBackMismatch s = .next (s.collide f).fill := by
  refine (event_running h _).trans ?_
  simp only [hd, hf, if_true]

theorem exec_replyStart {s : State} {r : PendingReply} (h : s.resetHeld = false) (hr : s.line.reply = some r) :
    exec .replyStart s = .next
      (if s.line.released ∧ s.line.stuck = false ∧ s.onLine ∧ s.mem.take.isNone then
        { s with
          line := s.line.begin (replyFrame s.ctl.number s.ctl.epoch r)
          ctl := s.ctl.activity }
      else { s with line := { s.line with reply := none } }) := by
  show execReplyStart s = _
  rw [execReplyStart, event_running h]
  simp only [hr]

theorem LineInterface.driving_iff (x : LineInterface) :
    x.driving = true ↔ x.activity = .sending ∧ x.frameOver = false := by
  simp [LineInterface.driving]

theorem LineInterface.takingIn_iff (x : LineInterface) :
    x.takingIn = true ↔ x.activity = .receiving ∧ x.frameOver = false := by
  simp [LineInterface.takingIn]

/-! ### Resets, activity, disturbances -/

/-- Settles O5: the release is one branch of the event, and the straps are what it samples. -/
theorem resetReleaseSamplesStraps : Obligations.ResetReleaseSamplesStraps := by
  intro s sid scn srt
  refine ⟨fun h => ?_, fun h => ?_⟩
  · show execResetRelease sid scn srt s = _
    simp [execResetRelease, h]
  · refine ⟨_, congrArg Host.Outcome.next (if_pos h), rfl, rfl, rfl, rfl, rfl, rfl, rfl, rfl, rfl, rfl, rfl, rfl, rfl⟩

/-- Settles O6: on a released line that is not stuck the half-bit is heard, otherwise it is none. -/
theorem firstActiveHalfBitStartsReceiving : Obligations.FirstActiveHalfBitStartsReceiving := by
  intro s h
  refine ⟨fun hl hs => ?_, fun hn => ?_⟩ <;> rw [exec_firstActiveHalfBit h]
  · rw [if_pos ⟨hl, hs⟩]; rfl
  · rw [if_neg]
    rintro ⟨hl, hs⟩
    simp [hl, hs] at hn

/-- The observed collision of the station controller as one record (R33), after the activity that shows it (R38). -/
theorem StationController.observedCollision_activity (c : StationController) :
    c.activity.observedCollision = { c with
      silence := c.silence.map fun _ => 0
      last := none
      sync := .synced
      reason := if c.sync = .unsynced then .collision else c.reason
      lineStatePending := c.lineStatePending || c.sync == .unsynced } := by
  rw [StationController.observedCollision, StationController.gainSync_eq]; rfl

/-- Settles O7: the notice passes the station controller on the line and is dropped off it (R22). -/
theorem lineDisturbanceIsAnObservedCollision : Obligations.LineDisturbanceIsAnObservedCollision := by
  intro s h ha hf
  have ht : s.line.takingIn = true := (LineInterface.takingIn_iff _).mpr ⟨ha, hf⟩
  refine ⟨_, by rw [exec_lineDisturbance h, if_pos ht], ?_, fun ho => ?_, fun ho => ?_⟩
  · rw [State.observedCollision_eq]; rfl
  · rw [State.observedCollision_eq]
    exact if_neg (Bool.eq_false_iff.mp ho)
  · have hc : (({ s with line := s.line.disturb, ctl := s.ctl.activity } : State).observedCollision).ctl =
        s.ctl.activity.observedCollision := by
      rw [State.observedCollision_eq]; exact if_pos ho
    rw [hc, StationController.observedCollision_activity]
    exact ⟨rfl, rfl⟩

/-! ### Jam ends, idle lines, the stuck condition -/

/-- The silence timer at the end of a bit time of released line, in the spelling of the statements. -/
theorem map_max_one (x : Option Nat) : (x.map fun n => max n 1) = x.map fun n => if 1 ≤ n then n else 1 := by
  cases x with
  | none => rfl
  | some n => simp only [Option.map_some, Option.some.injEq]; split <;> omega

/-- Settles O9: the end of a jam, and the one bit time of released line after a frame end or in DISTURBED. -/
theorem jamEndAndLineIdle : Obligations.JamEndAndLineIdle := by
  intro s h
  refine ⟨fun hj => ?_, fun hj => ?_, fun hj b => ?_, fun hs hd => ?_, fun hs hf hd => ?_⟩
  · rw [exec_jamEnd h, if_pos hj]; rfl
  · rw [exec_jamEnd h, if_pos hj]; rfl
  · rw [exec_jamEnd h, if_neg hj]
  · rw [exec_lineIdle h]
    cases hf : s.line.frameOver with
    | true =>
      simp [LineInterface.idleBitTime, StationController.idleBitTime, LineInterface.goIdle, map_max_one, hs, hf]
    | false =>
      have ha : s.line.activity = .disturbed := by simpa [hf] using hd
      cases hi : s.line.idleTime <;>
        simp [LineInterface.idleBitTime, StationController.idleBitTime, LineInterface.goIdle, map_max_one, hs, hf, ha, hi]
  · rw [exec_lineIdle h]
    simp [LineInterface.idleBitTime, StationController.idleBitTime, hs, hf, hd]

/-- Settles O10: the beginning of the stuck condition, and its end, which LINE_IDLE marks as well. -/
theorem stuckConditionBeginsAndEnds : Obligations.StuckConditionBeginsAndEnds := by
  intro s h
  have ended (hs : s.line.stuck = true) :
      s.line.idleBitTime = s.line.endStuck ∧
        s.ctl.idleBitTime s.line = { s.ctl with silence := s.ctl.silence.map fun n => if 1 ≤ n then n else 1 } := by
    simp [LineInterface.idleBitTime, StationController.idleBitTime, map_max_one, hs]
  refine ⟨fun hr hs => ?_, fun hn => ?_, fun hs => ?_, fun hs => ?_, fun hs => ?_⟩
  · rw [exec_stuckCondition h, if_pos ⟨hr, hs⟩, State.stuckNotice_eq]; rfl
  · rw [exec_stuckCondition h, if_neg]
    rintro ⟨hr, hs⟩
    simp [hr, hs] at hn
  · rw [exec_stuckConditionEnd h, if_pos hs, (ended hs).2]; rfl
  · rw [exec_stuckConditionEnd h, if_pos hs, exec_lineIdle h, (ended hs).1]
  · rw [exec_stuckConditionEnd h, if_neg (by simp [hs])]

end Sys2Proof.Machine
end

section
/-! Exchange ends, slots, replies and own frames (R6, R8 to R13, R54 to R69). -/

namespace Sys2Proof.Machine

/-! ### Exchange ends -/

/-- The close of a station frame's exchange (R69). -/
theorem State.closeExchange_station {s : State} {x : ExchangeRecord} (h : s.sched.exchange = some x)
    (ho : x.owner = .announce ∨ x.owner = .beacon) :
    s.closeExchange = ({ s with sched := { s.sched with exchange := none } } : State).drainTest := by
  simp only [State.closeExchange, h]
  rcases ho with ho | ho <;> rw [ho]

/-- The close of a lane's exchange (R61, R69). -/
theorem State.closeExchange_lane {s : State} {x : ExchangeRecord} {i : Fin 8} (h : s.sched.exchange = some x)
    (ho : x.owner = .lane i) :
    s.closeExchange = (({ s with
      sched := { s.sched with
        exchange := none
        reoffer := if x.handed = ExchangeOutcome.collision then some i else s.sched.reoffer } } : State).setLane i
          (s.lanes[i].takeOutcome x.handed)).drainTest := by
  simp only [State.closeExchange, h, ho]
  rfl

/-- Settles O12: with the activity mark set the line marks the end and the scheduler closes what is open. -/
theorem exchangeEndClosesExchange : Obligations.ExchangeEndClosesExchange := by
  intro s h hl hs
  refine ⟨fun hm => ?_, fun hm => ⟨fun hx => ?_, fun x hx => ⟨fun ho => ?_, fun i ho => ?_⟩⟩⟩
  · rw [exec_exchangeEnd h, if_neg (by simp [hm])]
  · rw [exec_exchangeEnd h, if_pos ⟨hl, hs, hm⟩]
    simp only [State.closeExchange, hx]; rfl
  · rw [exec_exchangeEnd h, if_pos ⟨hl, hs, hm⟩, 
      State.closeExchange_station (s := { s with line := s.line.exchangeEnds }) hx ho]
    rfl
  · rw [exec_exchangeEnd h, if_pos ⟨hl, hs, hm⟩, 
      State.closeExchange_lane (s := { s with line := s.line.exchangeEnds }) hx ho]
    rfl

/-! ### Slots -/

/-- The phase that the model counts to is the one that R9 names. -/
theorem State.nextPhase_of_nextSlot {s : State} {p : Nat} (h : s.nextSlot p) : s.line.nextPhase s.ctl.count = p := by
  rcases h with ⟨⟨t, ht⟩, rfl⟩ | ⟨t, q, ht, hq, rfl⟩
  · simp [LineInterface.nextPhase, ht]
  · simp [LineInterface.nextPhase, ht, hq]

/-- A next slot is counted only while slots are counted. -/
theorem State.slots_of_nextSlot {s : State} {p : Nat} (h : s.nextSlot p) : s.line.slots ≠ .stopped := by
  rcases h with ⟨⟨t, ht⟩, -⟩ | ⟨t, q, ht, -, -⟩ <;> simp [ht]

/-- The state in a slot of phase `p` that has just started (R9). -/
def State.inSlot (s : State) (p : Nat) : State :=
  { s with line := { s.line with slotPhase := some p, slots := .inSlot 0 } }

/-- A slot start on an idle line: the phase counts on, and the station takes its turn where it may (R9, R11). -/
theorem exec_slotStart_counted {s : State} {p : Nat} (h : s.resetHeld = false) (ha : s.line.activity = .idle)
    (hs : s.line.stuck = false) (hm : s.line.activityMark = false) (hp : s.nextSlot p) :
    exec .slotStart s = .next (if s.mayBegin p then (s.inSlot p).turn else s.inSlot p) := by
  rw [exec_slotStart h, if_pos ⟨ha, hs, hm, State.slots_of_nextSlot hp⟩, State.slotStarts,
    State.nextPhase_of_nextSlot hp]
  rfl

/-- A station that is off the line, UNSYNCED, or not at its rank may not begin a frame (R11). -/
theorem State.mayBegin_eq_false {s : State} {p : Nat}
    (h : s.onLine = false ∨ s.ctl.sync = .unsynced ∨ p ≠ s.ctl.rank) : s.mayBegin p = false := by
  rcases h with h | h | h <;> simp [State.mayBegin, h]

/-- With an exchange open or no offer the turn passes (R11, R59). -/
theorem State.turn_passes {s : State} (h : s.sched.exchange.isSome = true ∨ s.choose = none) : s.turn = s := by
  rcases h with h | h
  · simp [State.turn, h]
  · simp [State.turn, h]

/-- R10: for a last of the line the rank counts on from the station after it, round the line. -/
theorem StationController.rank_some {c : StationController} {q : Fin 32} (hl : c.last = some q)
    (hq : q.val < c.count) : c.rank = (c.number.val + c.count - q.val - 1) % c.count := by
  have hshift : (c.number.val : Int) - q.val - 1 = ((c.number.val + c.count - q.val - 1 : Nat) : Int) - c.count := by
    omega
  simp only [StationController.rank, hl]
  rw [hshift, Int.sub_emod_right, ← Int.natCast_emod, Int.toNat_natCast]

/-- Settles O13: a slot that is not the station's fails one condition of R11, one without an offer fails the turn. -/
theorem slotsAreCountedAndPass : Obligations.SlotsAreCountedAndPass := by
  intro s h ha hs hm
  refine ⟨fun hstop => ?_, fun p hp hn => ?_, fun _ => ⟨fun hl => ?_, fun q hl hq => ?_⟩⟩
  · rw [exec_slotStart h, if_neg (by simp [hstop])]
  · have hpass : s.mayBegin p = false ∨ (s.inSlot p).turn = s.inSlot p := by
      rcases hn with hn | hn | hn | hn | hn
      · exact .inl (State.mayBegin_eq_false (.inl hn))
      · exact .inl (State.mayBegin_eq_false (.inr (.inl hn)))
      · exact .inl (State.mayBegin_eq_false (.inr (.inr hn)))
      · exact .inr (State.turn_passes (.inl hn))
      · exact .inr (State.turn_passes (.inr hn))
    rw [exec_slotStart_counted h ha hs hm hp]
    rcases hpass with hpass | hpass
    · rw [if_neg (by simp [hpass])]; rfl
    · rw [hpass, ite_self]; rfl
  · simp only [StationController.rank, hl]
  · exact StationController.rank_some hl hq

/-- At its own rank a SYNCED station on the line may begin a frame (R11). -/
theorem State.mayBegin_rank {s : State} (ho : s.onLine = true) (hy : s.ctl.sync = .synced) :
    s.mayBegin s.ctl.rank = true := by
  simp [State.mayBegin, ho, hy]

/-- A turn with an offer begins the chosen frame (R62). -/
theorem State.turn_begins {s : State} {o : Owner} (hx : s.sched.exchange = none) (hc : s.choose = some o) :
    s.turn = s.beginFrame o := by
  simp [State.turn, hx, hc]

/-- Settles O14: the turn begins the frame, and the three kinds of owner differ only in the scheduler and the lane. -/
theorem slotBeginsTheChosenFrame : Obligations.SlotBeginsTheChosenFrame := by
  intro s o h ha hs hm hp ho hy hx hc
  have hrun : exec .slotStart s = .next ((s.inSlot s.ctl.rank).beginFrame o) := by
    rw [exec_slotStart_counted h ha hs hm hp, if_pos (State.mayBegin_rank ho hy)]
    exact congrArg Host.Outcome.next (State.turn_begins (s := s.inSlot s.ctl.rank) hx hc)
  refine ⟨_, hrun, ?_⟩
  cases o with
  | announce | beacon =>
    exact ⟨rfl, rfl, rfl, rfl, rfl, rfl, rfl, rfl, rfl, rfl, rfl, rfl, rfl, fun _ hl => (by cases hl),
      fun _ => ⟨rfl, rfl, rfl⟩⟩
  | lane i =>
    refine ⟨rfl, rfl, rfl, rfl, rfl, rfl, rfl, rfl, rfl, rfl, rfl, rfl, rfl, fun j hj => ?_, fun h => ?_⟩
    · cases hj
      exact ⟨rfl, rfl, rfl⟩
    · simp at h

/-! ### Headers that the station builds -/

/-- A part of a sum of disjoint bit fields, read back as a number. -/
theorem field_ofNat (n low width : Nat) (hn : n < 65536) :
    field (BitVec.ofNat 16 n) low width = n / 2 ^ low % 2 ^ width := by
  rw [field, BitVec.toNat_ofNat, Nat.mod_eq_of_lt hn]

theorem FrameKind.code_lt (k : FrameKind) : k.code < 16 := by cases k <;> decide

theorem FrameKind.ofCode_code (k : FrameKind) : FrameKind.ofCode k.code = some k := by cases k <;> rfl

theorem ReplyCode.code_lt (c : ReplyCode) : c.code < 16 := by cases c <;> decide

/-- The first word of a built header: its four fields are below one another (Table 12.1). -/
theorem Header.build_h0_fields (f : FrameHead) (p : Fin 32) (l : Fin 8) (e : BitVec 4) :
    field (Header.build f p l e).h0 12 4 = f.kind.code ∧ field (Header.build f p l e).h0 7 5 = p.val ∧
      field (Header.build f p l e).h0 4 3 = l.val ∧ field (Header.build f p l e).h0 0 4 = e.toNat := by
  have hk := f.kind.code_lt
  have hp := p.isLt
  have hl := l.isLt
  have he := e.isLt
  simp only [Header.build]
  refine ⟨?_, ?_, ?_, ?_⟩ <;> rw [field_ofNat _ _ _ (by omega)] <;> omega

/-- The second word of a built header, with its five spare bits. -/
theorem Header.build_h1_fields (f : FrameHead) (p : Fin 32) (l : Fin 8) (e : BitVec 4) :
    field (Header.build f p l e).h1 11 5 = f.destination.val ∧
      field (Header.build f p l e).h1 10 1 = (if f.all then 1 else 0) ∧
      field (Header.build f p l e).h1 5 5 = 0 ∧ field (Header.build f p l e).h1 0 5 = f.selector.val := by
  have hd := f.destination.isLt
  have hs := f.selector.isLt
  simp only [Header.build]
  cases f.all <;> refine ⟨?_, ?_, ?_, ?_⟩ <;> rw [field_ofNat _ _ _ (by simp; omega)] <;> simp <;> omega

section
variable (f : FrameHead) (p : Fin 32) (l : Fin 8) (e : BitVec 4)

@[simp] theorem Header.build_kind : (Header.build f p l e).kind = some f.kind := by
  rw [Header.kind, (Header.build_h0_fields f p l e).1, FrameKind.ofCode_code]

@[simp] theorem Header.build_source : (Header.build f p l e).source = p := by
  rw [Header.source, (Header.build_h0_fields f p l e).2.1]
  exact Fin.ext (Nat.mod_eq_of_lt p.isLt)

@[simp] theorem Header.build_sourceLane : (Header.build f p l e).sourceLane = l := by
  rw [Header.sourceLane, (Header.build_h0_fields f p l e).2.2.1]
  exact Fin.ext (Nat.mod_eq_of_lt l.isLt)

@[simp] theorem Header.build_epoch : (Header.build f p l e).epoch = e := by
  rw [Header.epoch, (Header.build_h0_fields f p l e).2.2.2, BitVec.ofNat_toNat, BitVec.setWidth_eq]

@[simp] theorem Header.build_destination : (Header.build f p l e).destination = f.destination := by
  rw [Header.destination, (Header.build_h1_fields f p l e).1]
  exact Fin.ext (Nat.mod_eq_of_lt f.destination.isLt)

@[simp] theorem Header.build_all : (Header.build f p l e).all = f.all := by
  rw [Header.all, (Header.build_h1_fields f p l e).2.1]
  cases f.all <;> rfl

@[simp] theorem Header.build_selector : (Header.build f p l e).selector = f.selector := by
  rw [Header.selector, (Header.build_h1_fields f p l e).2.2.2]
  exact Fin.ext (Nat.mod_eq_of_lt f.selector.isLt)

@[simp] theorem Header.build_h2 : (Header.build f p l e).h2 = f.h2 := rfl

@[simp] theorem Header.build_h3 : (Header.build f p l e).h3 = f.h3 := rfl

end

/-- H3 of a reply reads back as its code and, within a field's range, its payload count (R55, Table 12.1). -/
theorem Header.reply_fields {h : Header} {c : ReplyCode} {n : Nat} (hw : h.h3 = replyWord c n) :
    h.replyCode = c.code ∧ (n < 32 → h.replyCount = n) := by
  have hc := c.code_lt
  rw [Header.replyCode, Header.replyCount, hw, replyWord]
  refine ⟨?_, fun hn => ?_⟩ <;> rw [field_ofNat _ _ _ (by omega)] <;> omega

/-! ### Replies -/

/-- Settles O16: the reply begins where R54 lets it, and its header is the one that the station builds. -/
theorem replyBeginsOrIsDropped : Obligations.ReplyBeginsOrIsDropped := by
  intro s r h hr
  refine ⟨fun hl hs ho ht => ?_, fun hn => ?_⟩
  · refine ⟨_, _, by rw [exec_replyStart h hr, if_pos ⟨hl, hs, ho, by simp [ht]⟩],
      rfl, rfl, rfl, rfl, rfl, rfl, rfl, ?_⟩
    obtain ⟨hcode, hcount⟩ := Header.reply_fields (h := (replyFrame s.ctl.number s.ctl.epoch r).header) rfl
    exact ⟨Header.build_kind .., Header.build_source .., Header.build_sourceLane .., Header.build_epoch ..,
      Header.build_destination .., Header.build_all .., Header.build_selector .., Header.build_h2 ..,
      hcode, fun hn => hcount (by omega)⟩
  · rw [exec_replyStart h hr, if_neg]
    rintro ⟨hl, hs, ho, ht⟩
    have htake : s.mem.take ≠ none := by simpa [hl, hs, ho] using hn
    exact htake (Option.isNone_iff_eq_none.mp ht)

/-! ### Own frames -/

/-- Settles O17: a reply moves only the line; a contention frame moves the scheduler, and on the line the station
controller (R22, R32). -/
theorem ownFrameCompletes : Obligations.OwnFrameCompletes := by
  intro s f h ha hf ht
  have hd : s.line.driving = true := (LineInterface.driving_iff _).mpr ⟨ha, hf⟩
  refine ⟨fun hk => ?_, fun hk ho => ?_, fun hk ho => ?_⟩ <;>
    rw [exec_ownFrameCompletion h hd ht] <;> simp only [State.ownFrameEnds, hk]
  · rfl
  · exact congrArg Host.Outcome.next (if_pos ho)
  · exact congrArg Host.Outcome.next (if_neg (Bool.eq_false_iff.mp ho))

/-! ### Entry to FAULTED (R28) -/

/-- What entry to FAULTED leaves, block by block: the line without its reply, the station controller and the scheduler
cleared, the contexts abandoned OFFLINE, and the rest as the completed take left it (R126; log 27). -/
theorem State.enterFaulted_spec (s : State) (r : Reason) :
    (s.enterFaulted r).line = { s.line with reply := none } ∧
    (s.enterFaulted r).ctl = { s.ctl with
      silence := none
      beacon := none
      last := none
      sync := .unsynced
      participation := .faulted
      reason := r
      lineStatePending := true } ∧
    (s.enterFaulted r).sched.pendingAnnounce = false ∧ (s.enterFaulted r).sched.beaconDue = false ∧
    (s.enterFaulted r).sched.reoffer = none ∧
    (∀ x, (s.enterFaulted r).sched.exchange = some x → x.lineLost = true) ∧
    (∀ i : Fin 12, (s.enterFaulted r).recv.contexts[i] = none) ∧
    (s.enterFaulted r).recv.streams = s.settleTake.recv.streams ∧
    (s.enterFaulted r).presence = s.settleTake.presence ∧
    (∀ q : Fin 16, (s.enterFaulted r).recv.ports[q].completions = s.settleTake.recv.ports[q].completions ++
      s.settleTake.recv.abandonedEntries .offline (fun _ => true) q) ∧
    (s.enterFaulted r).flags = s.settleTake.flags ∧ (s.enterFaulted r).windows = s.settleTake.windows ∧
    (s.enterFaulted r).mem = s.settleTake.mem ∧ (s.enterFaulted r).queue = s.settleTake.queue ∧
    (s.enterFaulted r).host = s.host := by
  obtain ⟨hcontexts, hstreams, -⟩ := s.settleTake.recv.faulted_spec
  refine ⟨?_, ?_, rfl, rfl, rfl, fun x hx => ?_, hcontexts, hstreams, rfl,
    s.settleTake.recv.abandonAll_completions .offline fun _ => true, rfl, rfl, rfl, rfl, s.enterFaulted_host r⟩
  · show { s.settleTake.line with reply := none } = _
    rw [State.settleTake_line, State.finishTake_line]
  · show ({ s.settleTake.ctl.record r with
      participation := .faulted, sync := .unsynced, last := none, silence := none, beacon := none } :
        StationController) = _
    rw [State.settleTake_ctl]; rfl
  · obtain ⟨y, -, rfl⟩ := Option.map_eq_some_iff.mp hx
    rfl

/-! ### Collisions (R13) -/

/-- The state at the beginning of a jam, the notices of the collision not yet taken (R5, R38). -/
def State.jamBegins (s : State) : State := { s with line := s.line.beginJam, ctl := s.ctl.activity }

/-- The same with the collision decided at the scheduler (R65). -/
def State.jamDecided (s : State) : State :=
  { s.jamBegins with sched := s.sched.mapExchange ExchangeRecord.collided }

theorem State.collide_reply {s : State} {f : Transmission} (hk : f.frameClass = .reply) :
    s.collide f = s.jamBegins.observedCollision := by
  simp only [State.collide, hk]; rfl

theorem State.collide_contention_onLine {s : State} {f : Transmission} (hk : f.frameClass = .contention)
    (ho : s.onLine = true) : s.collide f = s.jamDecided.ownCollision.observedCollision := by
  simp only [State.collide, hk]
  exact congrArg State.observedCollision (if_pos ho)

theorem State.collide_contention_offLine {s : State} {f : Transmission} (hk : f.frameClass = .contention)
    (ho : s.onLine = false) : s.collide f = s.jamDecided.observedCollision := by
  simp only [State.collide, hk]
  exact congrArg State.observedCollision (if_neg (Bool.eq_false_iff.mp ho))

/-- Off the line an observed collision is dropped (R22). -/
theorem State.observedCollision_offLine {s : State} (ho : s.onLine = false) : s.observedCollision = s :=
  if_neg (Bool.eq_false_iff.mp ho)

/-- On the line an observed collision comes to the station controller (R33). -/
theorem State.observedCollision_onLine {s : State} (ho : s.onLine = true) :
    s.observedCollision = { s with ctl := s.ctl.observedCollision } := if_pos ho

/-- The own-collision counter has counted one more (R36). -/
def State.ownCollisionCounted (s : State) : State :=
  { s with ctl := { s.ctl with ownCollisions := s.ctl.ownCollisions + 1 } }

/-- An own collision below the third is counted (R36). -/
theorem State.ownCollision_counts {s : State} (h : s.ctl.ownCollisions + 1 < 3) :
    s.ownCollision = s.ownCollisionCounted :=
  if_neg (by omega)

/-- The third own collision takes the station to FAULTED (R36). -/
theorem State.ownCollision_faults {s : State} (h : 3 ≤ s.ctl.ownCollisions + 1) :
    s.ownCollision = s.ownCollisionCounted.enterFaulted .duplicateStation := if_pos h

/-- A FAULTED station is off the line. -/
theorem State.enterFaulted_onLine (s : State) (r : Reason) : (s.enterFaulted r).onLine = false := rfl

/-- Settles O8: what is handed follows the class of the frame and the participation; at the third own collision the
observed collision finds the station FAULTED, which drops it. -/
theorem readBackMismatchCollides : Obligations.ReadBackMismatchCollides := by
  intro s f h ha hf ht
  have hd : s.line.driving = true := (LineInterface.driving_iff _).mpr ⟨ha, hf⟩
  have hrun := exec_readBackMismatch h hd ht
  refine ⟨fun ho hk => ?_, fun ho hk hc => ?_, fun ho hk hc => ?_, fun ho => ⟨fun hk => ?_, fun hk => ?_⟩⟩
  · rw [hrun, State.collide_reply hk, State.observedCollision_onLine (s := s.jamBegins) ho]
    exact congrArg (fun c => Host.Outcome.next ({ s.jamBegins with ctl := c } : State).fill)
      s.ctl.observedCollision_activity
  · rw [hrun, State.collide_contention_onLine hk ho, State.ownCollision_counts (s := s.jamDecided) hc,
      State.observedCollision_onLine (s := s.jamDecided.ownCollisionCounted) ho]
    exact congrArg (fun c => Host.Outcome.next ({ s.jamDecided with ctl := c } : State).fill)
      s.ownCollisionCounted.ctl.observedCollision_activity
  · refine ⟨s.jamDecided.ownCollisionCounted.enterFaulted .duplicateStation, ?_, rfl, State.enterFaulted_spec _ _⟩
    rw [hrun, State.collide_contention_onLine hk ho, State.ownCollision_faults (s := s.jamDecided) hc,
      State.observedCollision_offLine (State.enterFaulted_onLine _ _)]
  · rw [hrun, State.collide_reply hk, State.observedCollision_offLine (s := s.jamBegins) ho]; rfl
  · rw [hrun, State.collide_contention_offLine hk ho, State.observedCollision_offLine (s := s.jamDecided) ho]; rfl

end Sys2Proof.Machine
end

section
/-! Frames on the line: the half-bits driven and taken in, the words of a frame, and the header fields (R1 to R6, R42 to
R47). -/

namespace Sys2Proof.Machine

/-! ### Lengths -/

@[simp] theorem wordBits_length (w : Word) : (wordBits w).length = 16 := by simp [wordBits]

theorem bitHalves_length (b : Bool) : (bitHalves b).length = 2 := by cases b <;> rfl

@[simp] theorem wordHalves_length (w : Word) : (wordHalves w).length = 32 := by
  simp [wordHalves, List.length_flatMap, bitHalves_length]

/-- A frame lasts as many bit times as it has pairs of half-bits (R42). -/
theorem frameHalfBits_length (ws : List Word) : (frameHalfBits ws).length = 2 * frameTime ws.length := by
  have hws : (ws.flatMap wordHalves).length = 32 * ws.length := by
    simp [List.length_flatMap, Nat.mul_comm]
  simp only [frameHalfBits, List.length_append, hws, frameTime, startDelimiter, endDelimiter, List.length_cons,
    List.length_nil]
  omega

@[simp] theorem Header.words_length (h : Header) : h.words.length = 4 := rfl

theorem frameWords_length (h : Header) (payload : List Word) :
    (frameWords h payload).length = if payload.isEmpty then 5 else 6 + payload.length := by
  unfold frameWords
  split
  · simp
  · simp; omega

theorem Transmission.levels_length (f : Transmission) : f.levels.length = 2 * f.time := by
  rw [Transmission.levels, frameHalfBits_length, frameWords_length, Transmission.time]

/-! ### What the transmitter drives -/

theorem LineInterface.drives_sending {x : LineInterface} {f : Transmission} (ha : x.activity = .sending)
    (hf : x.tx = some f) (half : Fin 2) : x.drives half = f.levels.getD (2 * x.txTime + half.val) .released := by
  simp only [LineInterface.drives, ha, hf]

theorem Level.pullsA_eq (x : Level) : x.pullsA = (x == .mark || x == .contend) := by cases x <;> rfl

theorem Level.pullsB_eq (x : Level) : x.pullsB = (x == .space || x == .contend) := by cases x <;> rfl

/-! ### Words from half-bits -/

/-- The bits that half-bits spell are read back, and the rest is left (R1). -/
theorem readBits_flatMap (bits : List Bool) (rest : List Level) :
    readBits bits.length (bits.flatMap bitHalves ++ rest) = some (bits, rest) := by
  induction bits with
  | nil => rfl
  | cons b bits ih => cases b <;> simp [bitHalves, readBits, ih]

theorem readBits_wordHalves (w : Word) (rest : List Level) :
    readBits 16 (wordHalves w ++ rest) = some (wordBits w, rest) := by
  have h := readBits_flatMap (wordBits w) rest
  rwa [wordBits_length] at h

/-- Bit 0 of a word read from bits is the last of them, and the bits above it are those read before it (R1). -/
theorem getLsbD_bitsWord (bits : List Bool) (i : Nat) (hi : i < 16) :
    (bitsWord bits).getLsbD i = bits.reverse.getD i false := by
  induction bits using List.reverseRecOn generalizing i with
  | nil => simp [bitsWord]
  | append_singleton bits b ih =>
    have hstep : bitsWord (bits ++ [b]) = (bitsWord bits <<< 1) ||| (if b then 1 else 0) := by simp [bitsWord]
    rw [hstep, List.reverse_concat, BitVec.getLsbD_or, BitVec.getLsbD_shiftLeft]
    cases i with
    | zero => cases b <;> rfl
    | succ i =>
      have hlow : (if b then 1 else 0 : Word).getLsbD (i + 1) = false := by cases b <;> simp
      rw [hlow]
      simp [hi, ih i (by omega)]

/-- The bits of a word, most significant first, spell the word (R1). -/
theorem bitsWord_wordBits (w : Word) : bitsWord (wordBits w) = w := by
  refine BitVec.eq_of_getLsbD_eq fun i hi => ?_
  have hlen : i < (wordBits w).reverse.length := by simpa using hi
  rw [getLsbD_bitsWord _ _ hi, List.getD_eq_getElem _ _ hlen]
  simp only [wordBits, List.getElem_reverse, List.getElem_map, List.getElem_range, List.length_map,
    List.length_range]
  congr 1
  omega

/-- No word begins as the end delimiter does: its first bit is no MARK MARK (R1, R4). -/
theorem take_wordHalves_ne (w : Word) (rest : List Level) : (wordHalves w ++ rest).take 8 ≠ endDelimiter := by
  have hw : ∃ t, wordHalves w = bitHalves (w.getLsbD 15) ++ t := ⟨_, rfl⟩
  obtain ⟨t, ht⟩ := hw
  rw [ht]
  cases w.getLsbD 15 <;> simp [bitHalves, endDelimiter]

/-- Words up to the end delimiter and a released half-bit are taken whole (R4). -/
theorem takeWords_frame (ws : List Word) (rest : List Level) (fuel : Nat) (h : ws.length < fuel) :
    takeWords fuel (ws.flatMap wordHalves ++ (endDelimiter ++ .released :: rest)) = some ws := by
  induction ws generalizing fuel with
  | nil =>
    obtain ⟨fuel, rfl⟩ := Nat.exists_eq_succ_of_ne_zero (by omega : fuel ≠ 0)
    simp [takeWords, endDelimiter]
  | cons w ws ih =>
    obtain ⟨fuel, rfl⟩ := Nat.exists_eq_succ_of_ne_zero (by omega : fuel ≠ 0)
    simp only [List.length_cons] at h
    rw [List.flatMap_cons, List.append_assoc, takeWords, if_neg (take_wordHalves_ne w _), readBits_wordHalves]
    simp [ih fuel (by omega), bitsWord_wordBits]

/-- What is driven is taken in: a frame and a released half-bit after it give its whole words (R3, R4, R42). -/
theorem receive_frameHalfBits (ws : List Word) (rest : List Level) :
    receive (frameHalfBits ws ++ .released :: rest) = some ws := by
  have hlen := frameHalfBits_length ws
  have hsplit : frameHalfBits ws ++ .released :: rest =
      startDelimiter ++ (ws.flatMap wordHalves ++ (endDelimiter ++ .released :: rest)) := by
    simp [frameHalfBits, List.append_assoc]
  have hfuel : ws.length < (frameHalfBits ws ++ .released :: rest).length + 1 := by
    rw [List.length_append, hlen, frameTime]; omega
  rw [receive]
  generalize (frameHalfBits ws ++ Level.released :: rest).length + 1 = fuel at hfuel
  have hstart : startDelimiter.length = 16 := rfl
  rw [hsplit, List.take_left' hstart, List.drop_left' hstart, if_pos rfl]
  exact takeWords_frame ws rest _ hfuel

/-! ### Deliveries from words -/

/-- The words of a frame with up to 32 payload words give its header, its payload and two good check results (R4, R47). -/
theorem delivery_frameWords (k : FrameClass) (e : TimeBase) (h : Header) (payload : List Word)
    (hp : payload.length ≤ 32) :
    delivery k e (frameWords h payload) =
      { frameClass := k, frameEnd := e, header := h, headerGood := true, payload := payload, payloadGood := true } := by
  cases payload with
  | nil => simp [delivery, frameWords, Header.words, wordAt]
  | cons w payload =>
    simp only [List.length_cons] at hp
    have hmore : ¬payload.length + 1 + 1 + 1 + 1 + 1 + 1 < 6 := by omega
    have hfits : payload.length + 1 + 1 + 1 + 1 + 1 + 1 < 38 := by omega
    simp [delivery, frameWords, Header.words, wordAt, hmore, hfits]

/-! ### Fields of the header words -/

theorem Header.segment_fields {h : Header} {m : BitVec 8} {i n : Nat} (hi : i < 64) (hn : 1 ≤ n) (hn' : n ≤ 2048)
    (h2 : h.h2 = segmentWord m i) (h3 : h.h3 = lengthWord n) :
    h.message = m ∧ h.index = i ∧ h.messageLength = n := by
  have hm := m.isLt
  rw [Header.message, Header.index, Header.messageLength, h2, h3, segmentWord, lengthWord]
  refine ⟨?_, ?_, ?_⟩ <;> rw [field_ofNat _ _ _ (by omega)]
  · refine BitVec.eq_of_toNat_eq ?_
    rw [BitVec.toNat_ofNat]
    omega
  · omega
  · omega

theorem Header.wordCount_countWord {h : Header} {n : Nat} (hn : 1 ≤ n) (hn' : n ≤ 16) (h3 : h.h3 = countWord n) :
    h.wordCount = n := by
  rw [Header.wordCount, h3, countWord, field_ofNat _ _ _ (by omega)]
  omega

/-- Settles O54, part by part: the transmitter's half-bits, the receiver's words, the delivery, the header's fields. -/
theorem framesAreTakenInAsSent : Obligations.FramesAreTakenInAsSent := by
  refine ⟨fun x f half ha hf => ?_, fun f => f.levels_length, fun x half => ?_, receive_frameHalfBits,
    delivery_frameWords, fun f p l e => ?_, fun m i n h hi hn hn' h2 h3 => Header.segment_fields hi hn hn' h2 h3,
    fun n h hn hn' h3 => Header.wordCount_countWord hn hn' h3, fun c n h hn h3 => ?_⟩
  · have hhalf := half.isLt
    have hlen := f.levels_length
    rw [LineInterface.drives_sending ha hf]
    refine ⟨fun ht => ?_, fun ht => List.getD_eq_default _ _ (by omega)⟩
    have hlt : 2 * x.txTime + half.val < f.levels.length := by omega
    rw [List.getD_eq_getElem _ _ hlt]
    exact List.getElem?_eq_getElem hlt
  · refine ⟨fun ha hf => ?_, fun ha => ?_, fun hs hj => ?_, Level.pullsA_eq _, Level.pullsB_eq _⟩
    · simp only [LineInterface.drives, ha, hf]
    · simp only [LineInterface.drives, ha]
    · cases ha : x.activity with
      | sending => exact absurd ha hs
      | jamming => exact absurd ha hj
      | idle | receiving | disturbed => simp only [LineInterface.drives, ha]
  · exact ⟨Header.build_kind .., Header.build_source .., Header.build_sourceLane .., Header.build_epoch ..,
      Header.build_destination .., Header.build_all .., Header.build_selector .., Header.build_h2 ..,
      Header.build_h3 .., (Header.build_h1_fields f p l e).2.2.1⟩
  · obtain ⟨hcode, hcount⟩ := Header.reply_fields h3
    exact ⟨hcode, hcount (by omega)⟩

end Sys2Proof.Machine
end

section
/-! Frame ends and header failures (R4, R7, R18, R30, R31, R34, R35). -/

namespace Sys2Proof.Machine

/-! ### Frame ends -/

/-- The state at a frame end, field by field (R4, R7, R38). -/
theorem State.atFrameEnd_eq (s : State) :
    s.atFrameEnd = { s.settleTake with
      line := { s.line with
        frameOver := true, idleTime := some 0, gap := if s.line.rxClass = .contention then some 0 else none
        reply := none }
      ctl := { s.settleTake.ctl with silence := s.ctl.silence.map fun _ => 0 } } := by
  have hgap : gapAfter s.line.rxClass = if s.line.rxClass = .contention then some 0 else none := by
    cases s.line.rxClass <;> rfl
  have hquiet : s.settleTake.ctl.activity = { s.settleTake.ctl with silence := s.ctl.silence.map fun _ => 0 } := by
    rw [StationController.activity, State.settleTake_ctl]
  simp only [State.atFrameEnd, LineInterface.frameEnds, hgap, hquiet]

/-- The station controller at a frame end is the one before, its silence timer restarted and its pending mark as the
completed take left it. -/
theorem State.atFrameEnd_ctl (s : State) :
    s.atFrameEnd.ctl = { s.ctl with
      silence := s.ctl.silence.map fun _ => 0
      lineStatePending := s.settleTake.ctl.lineStatePending } := by
  rw [State.atFrameEnd_eq, State.settleTake_ctl]

/-- No take is in progress at a frame end (log 27). -/
theorem State.atFrameEnd_take (s : State) : s.atFrameEnd.mem.take = none := by
  rw [State.atFrameEnd_mem, State.settleTake_mem, State.finishTake_take]

theorem State.atFrameEnd_onLine (s : State) : s.atFrameEnd.onLine = s.onLine := by
  rw [State.onLine, State.atFrameEnd_ctl]; rfl

theorem exec_frameDelivery_ok {s t : State} {f : FrameEnd} (h : s.resetHeld = false) (hd : s.frameDelivered f = .ok t) :
    exec (.frameDelivery f) s = .next t := by
  show execFrameDelivery f s = _
  rw [execFrameDelivery, eventWithAccess_ok h hd]

/-- With no frame being taken in there is no frame end (log 6). -/
theorem exec_frameDelivery_none {s : State} {f : FrameEnd} (h : s.resetHeld = false) (hi : s.line.takingIn = false) :
    exec (.frameDelivery f) s = .next s :=
  exec_frameDelivery_ok h (if_neg (Bool.eq_false_iff.mp hi))

/-- A frame end hands its delivery on, serves the take it begins, and the queue fills (R18, R161). -/
theorem exec_frameDelivery_handed {s t : State} {f : FrameEnd} (h : s.resetHeld = false) (hi : s.line.takingIn = true)
    (hd : s.atFrameEnd.deliver (s.incoming f.words) = .ok t) :
    exec (.frameDelivery f) s = .next (t.servesTake f.pause).fill := by
  have hend : ({ s.settleTake with
      line := s.settleTake.line.frameEnds, ctl := s.settleTake.ctl.activity } : State) = s.atFrameEnd := by
    simp only [State.atFrameEnd, State.settleTake_line, State.finishTake_frameEnds]
  have hclass : s.settleTake.line.rxClass = s.line.rxClass := by rw [State.settleTake_line, State.finishTake_line]
  refine exec_frameDelivery_ok h ?_
  rw [State.incoming] at hd
  simp only [State.frameDelivered, hi, if_true, hend]
  rw [hclass, State.settleTake_time, hd]

/-- A frame end whose delivery begins no take. -/
theorem exec_frameDelivery_untaken {s t : State} {f : FrameEnd} (h : s.resetHeld = false)
    (hi : s.line.takingIn = true) (hd : s.atFrameEnd.deliver (s.incoming f.words) = .ok t) (ht : t.mem.take = none) :
    exec (.frameDelivery f) s = .next t.fill := by
  rw [exec_frameDelivery_handed h hi hd, State.servesTake_none ht]

/-- A delivery with a header check failure on the line comes to the station controller only (R34, R47). -/
theorem State.deliver_badHeader {s : State} {d : Delivery} (ho : s.onLine = true) (hg : d.headerGood = false) :
    s.deliver d = .ok (s.headerFails d.frameClass) := by
  simp [State.deliver, ho, hg]

/-- A delivery off the line is dropped (R22). -/
theorem State.deliver_offLine {s : State} (d : Delivery) (ho : s.onLine = false) : s.deliver d = .ok s := by
  simp [State.deliver, ho]

/-! ### What a valid header teaches -/

/-- A header that teaches `p` as the last station (R30, R31), at a frame end. -/
theorem StationController.takeHeader_teaches {c : StationController} {k : FrameClass} {h : Header} {p : Fin 32}
    (ht : k = .contention ∧ p = h.source ∨ k = .reply ∧ h.kind = some .reply ∧ p = h.destination) :
    c.takeHeader k h = { c with
      last := if p.val < c.count then some p else none
      badHeaders := 0
      sync := .synced
      reason := if c.sync = .unsynced then .heard else c.reason
      lineStatePending := c.lineStatePending || c.sync == .unsynced } := by
  rcases ht with ⟨rfl, rfl⟩ | ⟨rfl, hk, rfl⟩
  · simp only [StationController.takeHeader, StationController.gainSync_eq]; rfl
  · simp only [StationController.takeHeader, hk, if_true, StationController.gainSync_eq]; rfl

theorem State.afterHeader_ctl_atFrameEnd (s : State) (ws : List Word) :
    (s.afterHeader ws).ctl = s.atFrameEnd.ctl.takeHeader s.line.rxClass (s.incoming ws).header :=
  s.afterHeader_ctl ws

/-! ### Header failures -/

/-- The state after a header failure that counts (R34, R35). -/
def State.headerFailed (s : State) : State :=
  { s with
    ctl := { s.ctl with
      sync := .unsynced
      reason := if s.ctl.sync = .synced then .header else s.ctl.reason
      lineStatePending := s.ctl.lineStatePending || s.ctl.sync == .synced
      badHeaders := s.ctl.badHeaders + 1 } }

/-- A header failure of reply class at a SYNCED station changes nothing (R34, R35). -/
theorem State.headerFails_ignored {s : State} (hy : s.ctl.sync = .synced) : s.headerFails .reply = s := by
  simp [State.headerFails, hy]

/-- Any other header failure leaves the station UNSYNCED and counts; the sixteenth takes it to FAULTED (R34, R35). -/
theorem State.headerFails_counts {s : State} {k : FrameClass} (hk : k = .contention ∨ s.ctl.sync = .unsynced) :
    s.headerFails k =
      if 16 ≤ s.ctl.badHeaders + 1 then s.headerFailed.enterFaulted .lineUnusable else s.headerFailed := by
  have hlost : (if k = .contention then s.ctl.loseSync .header else s.ctl) = s.ctl.loseSync .header := by
    split
    · rfl
    · rename_i hc
      exact (if_neg (by simp [hk.resolve_left hc])).symm
  rw [State.headerFails, hlost, StationController.loseSync_eq]
  rfl

/-- Settles O47: the delivery is dropped off the line, teaches with a valid header, and fails with a bad one. -/
theorem headersTeachAndFail : Obligations.HeadersTeachAndFail := by
  intro s f h
  have htaught (p : Fin 32) (ht : s.line.rxClass = .contention ∧ p = (s.incoming f.words).header.source ∨
      s.line.rxClass = .reply ∧ (s.incoming f.words).header.kind = some .reply ∧
        p = (s.incoming f.words).header.destination) := by
    exact (s.afterHeader_ctl_atFrameEnd f.words).trans
      ((StationController.takeHeader_teaches ht).trans (by rw [State.atFrameEnd_ctl]))
  refine ⟨exec_frameDelivery_none h, s.atFrameEnd_eq, fun hi ho => ?_, fun hk => htaught _ (.inl ⟨hk, rfl⟩),
    fun hk hr => htaught _ (.inr ⟨hk, hr, rfl⟩), fun hk hr => ?_, fun hi ho hg => ⟨fun hk hy => ?_, fun hk => ?_⟩⟩
  · exact exec_frameDelivery_untaken h hi (State.deliver_offLine _ (s.atFrameEnd_onLine.trans ho)) s.atFrameEnd_take
  · rw [State.afterHeader_ctl_atFrameEnd, hk, StationController.takeHeader, if_neg hr, State.atFrameEnd_eq]
  · have hfail := State.deliver_badHeader (s.atFrameEnd_onLine.trans ho) hg
    have hclass : (s.incoming f.words).frameClass = .reply := hk
    rw [hclass, State.headerFails_ignored (by rw [State.atFrameEnd_ctl]; exact hy)] at hfail
    exact exec_frameDelivery_untaken h hi hfail s.atFrameEnd_take
  · have hdeliver := State.deliver_badHeader (s.atFrameEnd_onLine.trans ho) hg
    have hcounts : s.line.rxClass = .contention ∨ s.atFrameEnd.ctl.sync = .unsynced := by
      rw [State.atFrameEnd_ctl]; exact hk
    have hbad : s.atFrameEnd.ctl.badHeaders = s.ctl.badHeaders := by rw [State.atFrameEnd_ctl]
    have hclass : (s.incoming f.words).frameClass = s.line.rxClass := rfl
    have hfailed : s.atFrameEnd.headerFailed = { s.atFrameEnd with
        ctl := { s.atFrameEnd.ctl with
          sync := .unsynced
          reason := if s.ctl.sync = .synced then .header else s.ctl.reason
          lineStatePending := s.settleTake.ctl.lineStatePending || s.ctl.sync == .synced
          badHeaders := s.ctl.badHeaders + 1 } } := by
      rw [State.headerFailed, State.atFrameEnd_ctl]
    rw [hclass, State.headerFails_counts hcounts, hbad] at hdeliver
    refine ⟨fun hc => ?_, fun hc => ?_⟩
    · rw [if_neg (by omega), hfailed] at hdeliver
      exact exec_frameDelivery_untaken h hi hdeliver s.atFrameEnd_take
    · rw [if_pos hc] at hdeliver
      have hsettled : s.atFrameEnd.headerFailed.settleTake = s.atFrameEnd.headerFailed :=
        State.settleTake_none s.atFrameEnd_take
      have hspec := State.enterFaulted_spec s.atFrameEnd.headerFailed .lineUnusable
      have hhost : s.atFrameEnd.headerFailed.host = s.host := s.atFrameEnd_host
      rw [hsettled, hhost] at hspec
      obtain ⟨hline, hctl, hrest⟩ := hspec
      have htake : (s.atFrameEnd.headerFailed.enterFaulted .lineUnusable).mem.take = none :=
        (congrArg BufferMemory.take (congrArg State.mem hsettled)).trans s.atFrameEnd_take
      refine ⟨_, exec_frameDelivery_untaken h hi hdeliver htake,
        congrArg (State.enterFaulted · .lineUnusable) hfailed, hctl.trans ?_, hline, hrest⟩
      rw [hfailed, State.atFrameEnd_ctl]

end Sys2Proof.Machine
end

section
/-! The idle step (log 4): what one bit time counts, and the commands it hands. -/

namespace Sys2Proof.Machine

/-! ### Commands while reset is held -/

/-- While reset is held no event but a reset has an effect (R19, R168). -/
theorem exec_held {s : State} {c : Instr} (hr : s.resetHeld = true) (h : c.isReset = false) : exec c s = .next s := by
  unfold exec
  cases c with
  | powerOnReset | pinReset | resetRelease => cases h
  | frameDelivery | laneWordAccess => exact if_pos hr
  | _ => exact event_held hr _

/-! ### Counts -/

/-- A count that may be stopped comes to its limit with this bit time, as the statements say it (log 5). -/
def DueAt (limit : Nat) (n : Option Nat) : Prop := ∃ k, n = some k ∧ k < limit ∧ limit ≤ k + 1

theorem reachesOpt_iff (limit : Nat) (n : Option Nat) : reachesOpt limit n = true ↔ DueAt limit n := by
  cases n <;> simp [reachesOpt, reaches, reached, DueAt]

theorem dueAt_some (limit n : Nat) : DueAt limit (some n) ↔ n < limit ∧ limit ≤ n + 1 := by
  simp [DueAt]

theorem reaches_iff (limit n : Nat) : reaches limit n = true ↔ n < limit ∧ limit ≤ n + 1 := by
  simp [reaches, reached]

theorem mem_handedIf (c i : Instr) (b : Bool) : c ∈ handedIf b i ↔ c = i ∧ b = true := by
  cases b <;> simp [handedIf]

theorem gapTick_eq (g : Option Nat) : gapTick g = g.bind fun n => if n < 16 then some (n + 1) else none := by
  cases g <;> rfl

/-- The next slot starts as 32 bit times before slot 0, or 16 in a slot, are over (R9). -/
theorem SlotCount.starts_iff (x : SlotCount) : x.starts = true ↔ x = .beforeSlot0 31 ∨ x = .inSlot 15 := by
  cases x <;> simp [SlotCount.starts, reaches_iff, Config.idleGap, Config.slotLength] <;> omega

/-! ### What one bit time leaves -/

/-- An idle step lets one bit time pass (log 4). -/
theorem step_idle {s : State} (h : s.pending = []) : step s = .next s.tick := by
  rw [step, h]

/-- One bit time with reset not held and no command waiting. -/
theorem State.tick_running {s : State} (hr : s.resetHeld = false) (hp : s.pending = []) :
    s.tick = { s with
      line := s.line.tick
      ctl := s.ctl.tick s.line.released
      lanes := s.lanes.map fun l => l.tick s.microEnds
      recv := { s.recv with contexts := s.recv.contexts.map fun c => c.map Context.tick }
      presence := s.tickPresence
      mem := { s.mem with take := s.mem.take.map fun k => { k with claimed := true } }
      time := s.tickTime
      pending := s.due } := by
  rw [State.tick, if_neg (by simp [hr]), hp]; rfl

/-- One bit time of a released line (R7, R8, R9). -/
theorem LineInterface.tick_released {x : LineInterface} (h : x.released = true) :
    x.tick = { x with
      idleTime := x.idleTime.map (countTo 16)
      runTime := if x.frameOver then countTo 1301 x.runTime else x.runTime
      gap := gapTick x.gap
      slots := x.slots.tick
      reply := x.reply.map PendingReply.tick } := if_pos h

/-- One bit time of a line that is driven or active (R5, R6, R16). -/
theorem LineInterface.tick_active {x : LineInterface} (h : x.released ≠ true) :
    x.tick = { x with
      gap := gapTick x.gap, runTime := countTo 1301 x.runTime, txTime := countTo x.drivenTime x.txTime } := if_neg h

/-! ### The commands that one bit time hands -/

/-- The commands of the line interface (R5, R6, R8, R9, R15, R16). -/
theorem LineInterface.mem_due (x : LineInterface) (c : Instr) :
    c ∈ x.due ↔
      x.released = true ∧
        (c = .lineIdle ∧ x.frameOver = true ∨
          c = .replyStart ∧ (∃ r, x.reply = some r ∧ r.waited = 7) ∨
          c = .exchangeEnd ∧ x.activityMark = true ∧ DueAt 16 x.idleTime ∨
          c = .slotStart ∧ (x.slots = .beforeSlot0 31 ∨ x.slots = .inSlot 15)) ∨
      ¬x.released = true ∧
        (c = .ownFrameCompletion ∧ x.activity = .sending ∧ DueAt x.drivenTime (some x.txTime) ∨
          c = .jamEnd false ∧ x.activity = .jamming ∧ DueAt x.drivenTime (some x.txTime) ∨
          c = .stuckCondition ∧ x.stuck = false ∧ x.runTime = 1300) := by
  have hreply : (x.reply.any fun r => reaches Config.replyStart r.waited) = true ↔
      ∃ r, x.reply = some r ∧ r.waited = 7 := by
    cases x.reply with
    | none => simp
    | some r => simp [reaches_iff, Config.replyStart]; omega
  have hrun : reaches (Config.stuckLimit + 1) x.runTime = true ↔ x.runTime = 1300 := by
    rw [reaches_iff, Config.stuckLimit]; omega
  unfold LineInterface.due
  split
  · rename_i hl
    simp only [List.mem_append, mem_handedIf, hl, hreply, Bool.and_eq_true, SlotCount.starts_iff, Config.replyGap,
      reachesOpt_iff, true_and, not_true, false_and, or_false, or_assoc]
  · rename_i hl
    simp only [List.mem_append, mem_handedIf, hl, hrun, Bool.and_eq_true, beq_iff_eq, Bool.not_eq_true',
      reaches_iff x.drivenTime, ← dueAt_some, Bool.false_eq_true, not_false_eq_true, true_and, false_and, false_or, or_assoc]

/-- The commands of lane `i` (R82, R88, R101 to R103). -/
theorem Lane.mem_due (l : Lane) (i : Fin 8) (micro : Bool) (c : Instr) :
    c ∈ l.due i micro ↔
      c = .holdTimerExpiry i ∧ l.state = .held ∧ DueAt 2048 l.hold ∨
      c = .waitTimerExpiry i ∧ micro = true ∧ l.state = .waiting ∧ DueAt l.timeLimit l.wait ∨
      c = .waitExpiryTake i ∧ l.expiryHanded = true ∨
      c = .waitRemovalTake i ∧ l.removalHanded = true ∨
      c = .waitRequestTake i ∧ l.state = .working ∧ l.job = .waitRequest ∨
      c = .flagRequestTake i ∧ l.state = .working ∧ l.job = .flagRequest := by
  simp only [Lane.due, List.mem_append, mem_handedIf, Bool.and_eq_true, beq_iff_eq, Config.busyHold, reachesOpt_iff, or_assoc,
    and_assoc]

/-- The commands of the slot with their codes (Table 11.3). -/
def slotCommands : List (Instr × Nat) :=
  [(.join, 1), (.leave, 2), (.startLane, 3), (.stopLane, 4), (.openPort, 5), (.closePort, 6), (.postReceive, 7),
    (.loadWindow, 8), (.clearWindow, 9), (.setFlags, 10), (.clearFlags, 11), (.setSignalMasks, 12)]

/-- The take of a waiting slot command (R165, R166). -/
theorem HostPort.mem_due (h : HostPort) (c : Instr) :
    c ∈ h.due ↔ h.owner = .station ∧
      ((c, h.code.toNat) ∈ slotCommands ∨ c = .unknownCommand ∧ 13 ≤ h.code.toNat) := by
  unfold HostPort.due
  cases h.owner with
  | host => simp
  | station =>
    generalize h.code.toNat = n
    rcases Nat.lt_or_ge n 13 with hn | hn
    · interval_cases n <;> simp [slotCommands]
    · obtain ⟨k, rfl⟩ := Nat.exists_eq_add_of_le' hn
      simp [slotCommands]

/-- Every lane has its place in the round (R59, R160). -/
theorem mem_roundRobin : ∀ p i : Fin 8, i ∈ roundRobin p := by decide

/-- A claim of some class waits, or will with the next claim of the take in progress (R160). -/
theorem State.claimWaits_iff (s : State) :
    s.claimWaits = true ↔ s.mem.take ≠ none ∨ s.host.claims ≠ [] ∨ ∃ i : Fin 8, s.lanes[i].claims = true := by
  by_cases ht : s.mem.take = none
  · by_cases hc : s.host.claims = []
    · have hfree : s.hostPathFree = true := by simp [State.hostPathFree, BufferMemory.lineClaims, ht, hc]
      simp [State.claimWaits, State.nextClaim, hfree, ht, hc, mem_roundRobin]
    · simp [State.claimWaits, hc]
  · simp [State.claimWaits, ht, Option.isSome_iff_ne_none]

/-- What one bit time hands, block by block (log 4). -/
theorem State.mem_due_blocks (s : State) (c : Instr) :
    c ∈ s.due ↔
      c ∈ s.line.due ∨
      c = .silenceTimerExpiry ∧ s.line.released = true ∧ DueAt 32768 s.ctl.silence ∨
      c = .beaconTimerExpiry ∧ DueAt 16384 s.ctl.beacon ∨
      (∃ i : Fin 8, c ∈ s.lanes[i].due i s.microEnds) ∨
      (∃ i : Fin 12, c = .contextTimerExpiry i ∧ ∃ x, s.recv.contexts[i] = some x ∧ DueAt 262144 (some x.age)) ∨
      (∃ p : Fin 32, c = .presenceTimerExpiry p ∧ s.presenceRuns p = true ∧
        DueAt 65536 s.presence.records[p].heard) ∨
      c = .laneWordAccess ∧ s.claimWaits = true ∨
      c ∈ s.host.due := by
  simp only [State.due, List.mem_append, mem_handedIf, List.mem_flatMap, List.mem_finRange, true_and, Bool.and_eq_true,
    Option.any_eq_true, Config.silenceInterval, Config.beaconInterval, Config.contextTimeout, Config.presenceTimeout,
    reachesOpt_iff, reaches_iff, dueAt_some, or_assoc]

/-- When one bit time hands each command (R5 to R9, R15, R16, R38, R39, R82, R101 to R103, R122, R143, R160, R166). -/
def State.hands (s : State) : Instr → Prop
  | .lineIdle => s.line.released = true ∧ s.line.frameOver = true
  | .replyStart => s.line.released = true ∧ ∃ r, s.line.reply = some r ∧ r.waited = 7
  | .exchangeEnd => s.line.released = true ∧ s.line.activityMark = true ∧ DueAt 16 s.line.idleTime
  | .slotStart => s.line.released = true ∧ (s.line.slots = .beforeSlot0 31 ∨ s.line.slots = .inSlot 15)
  | .ownFrameCompletion =>
    ¬s.line.released = true ∧ s.line.activity = .sending ∧ DueAt s.line.drivenTime (some s.line.txTime)
  | .jamEnd b =>
    b = false ∧ ¬s.line.released = true ∧ s.line.activity = .jamming ∧ DueAt s.line.drivenTime (some s.line.txTime)
  | .stuckCondition => ¬s.line.released = true ∧ s.line.stuck = false ∧ s.line.runTime = 1300
  | .silenceTimerExpiry => s.line.released = true ∧ DueAt 32768 s.ctl.silence
  | .beaconTimerExpiry => DueAt 16384 s.ctl.beacon
  | .holdTimerExpiry i => s.lanes[i].state = .held ∧ DueAt 2048 s.lanes[i].hold
  | .waitTimerExpiry i =>
    bitsPerMicro s.ctl.rate ≤ s.time.subMicro + 1 ∧ s.lanes[i].state = .waiting ∧
      DueAt s.lanes[i].timeLimit s.lanes[i].wait
  | .waitExpiryTake i => s.lanes[i].expiryHanded = true
  | .waitRemovalTake i => s.lanes[i].removalHanded = true
  | .waitRequestTake i => s.lanes[i].state = .working ∧ s.lanes[i].job = .waitRequest
  | .flagRequestTake i => s.lanes[i].state = .working ∧ s.lanes[i].job = .flagRequest
  | .contextTimerExpiry i => ∃ x, s.recv.contexts[i] = some x ∧ DueAt 262144 (some x.age)
  | .presenceTimerExpiry p =>
    (s.onLine = true ∧ s.presence.records[p].state = .present) ∧ DueAt 65536 s.presence.records[p].heard
  | .laneWordAccess => s.mem.take ≠ none ∨ s.host.claims ≠ [] ∨ ∃ i : Fin 8, s.lanes[i].claims = true
  | .join => s.host.owner = .station ∧ s.host.code.toNat = 1
  | .leave => s.host.owner = .station ∧ s.host.code.toNat = 2
  | .startLane => s.host.owner = .station ∧ s.host.code.toNat = 3
  | .stopLane => s.host.owner = .station ∧ s.host.code.toNat = 4
  | .openPort => s.host.owner = .station ∧ s.host.code.toNat = 5
  | .closePort => s.host.owner = .station ∧ s.host.code.toNat = 6
  | .postReceive => s.host.owner = .station ∧ s.host.code.toNat = 7
  | .loadWindow => s.host.owner = .station ∧ s.host.code.toNat = 8
  | .clearWindow => s.host.owner = .station ∧ s.host.code.toNat = 9
  | .setFlags => s.host.owner = .station ∧ s.host.code.toNat = 10
  | .clearFlags => s.host.owner = .station ∧ s.host.code.toNat = 11
  | .setSignalMasks => s.host.owner = .station ∧ s.host.code.toNat = 12
  | .unknownCommand => s.host.owner = .station ∧ 13 ≤ s.host.code.toNat
  | _ => False

/-- One bit time hands exactly the commands that are due (log 4). -/
theorem State.mem_due (s : State) (c : Instr) : c ∈ s.due ↔ s.hands c := by
  rw [State.mem_due_blocks]
  simp only [LineInterface.mem_due, Lane.mem_due, HostPort.mem_due, slotCommands, State.claimWaits_iff,
    State.microEnds, State.presenceRuns, List.mem_cons, Prod.mk.injEq, List.not_mem_nil, or_false, decide_eq_true_eq,
    Bool.and_eq_true, beq_iff_eq]
  cases c <;>
    simp only [State.hands, reduceCtorEq, false_and, and_false, false_or, or_false, true_and, exists_false,
      Instr.jamEnd.injEq, Instr.holdTimerExpiry.injEq, Instr.waitTimerExpiry.injEq, Instr.waitExpiryTake.injEq,
      Instr.waitRemovalTake.injEq, Instr.waitRequestTake.injEq, Instr.flagRequestTake.injEq,
      Instr.contextTimerExpiry.injEq, Instr.presenceTimerExpiry.injEq, exists_eq_left', and_left_comm]

/-- Only commands that arise inside the part are handed (log 4). -/
theorem State.arisesInside_of_hands {s : State} {c : Instr} (h : s.hands c) : c.arisesInside = true := by
  cases c with
  | powerOnReset | pinReset | resetRelease | frameDelivery | lineDisturbance | readBackMismatch | stuckConditionEnd
  | drainComplete | queueTake | hostMemoryWrite | writeInterruptEnables | writeCauses | eventAcknowledge
  | timeBaseLowRead | controlPageWrite | firstActiveHalfBit | commandWordWrite => exact h.elim
  | _ => rfl

/-! ### What the idle step leaves, block by block -/

/-- The timers of a lane, the wait timer in microseconds (R82, R102). -/
theorem State.tick_lane (s : State) (i : Fin 8) :
    (s.lanes.map fun l => l.tick s.microEnds)[i] = { s.lanes[i] with
      hold := s.lanes[i].hold.map (countTo 2048)
      wait := if bitsPerMicro s.ctl.rate ≤ s.time.subMicro + 1 then s.lanes[i].wait.map (countTo s.lanes[i].timeLimit)
        else s.lanes[i].wait } := by
  simp [Lane.tick, State.microEnds, Config.busyHold]

/-- The timer of a context (R122). -/
theorem State.tick_context (s : State) (i : Fin 12) :
    (s.recv.contexts.map fun c => c.map Context.tick)[i] =
      s.recv.contexts[i].map fun c => { c with age := countTo 262144 c.age } := by
  rw [Fin.getElem_fin, Vector.getElem_map]
  rfl

/-- The presence timers run for the records that are PRESENT while the station is on the line (R143). -/
theorem State.tickPresence_record (s : State) (p : Fin 32) :
    s.tickPresence.records[p] =
      if s.onLine = true ∧ s.presence.records[p].state = .present then
        { s.presence.records[p] with heard := s.presence.records[p].heard.map (countTo 65536) }
      else s.presence.records[p] := by
  simp [State.tickPresence, State.presenceRuns, Config.presenceTimeout]

/-- One bit time of the time base (R163; log 24). -/
theorem State.tickTime_eq (s : State) :
    s.tickTime = if bitsPerMicro s.ctl.rate ≤ s.time.subMicro + 1 then { micros := s.time.micros + 1, subMicro := 0 }
      else { micros := s.time.micros, subMicro := s.time.subMicro + 1 } := by
  simp [State.tickTime, State.microEnds]

/-- Settles O2: with reset held nothing acts or counts; otherwise each block's tick, and the queue gets what is due. -/
theorem idleStepIsOneBitTime : Obligations.IdleStepIsOneBitTime := by
  refine ⟨fun s c hr hc => exec_held hr hc, fun s hp => ⟨fun hr => ?_, fun hr => ⟨_, step_idle hp, ?_⟩⟩⟩
  · rw [step_idle hp, State.tick, if_pos hr]
  rw [State.tick_running hr hp]
  refine ⟨rfl, s.tick_lane, s.tick_context, fun p => ⟨fun hh => ?_, fun hh => ?_⟩, fun hl => ?_, fun hl => ?_,
    fun hm => ?_, fun hm => ?_, fun c hc => State.arisesInside_of_hands ((s.mem_due c).mp hc), s.mem_due _, s.mem_due _,
    s.mem_due _, s.mem_due _, s.mem_due _, fun b => s.mem_due _, s.mem_due _, s.mem_due _, s.mem_due _,
    fun i => ⟨s.mem_due _, s.mem_due _, s.mem_due _, s.mem_due _, s.mem_due _, s.mem_due _⟩, fun i => s.mem_due _,
    fun p => s.mem_due _, s.mem_due _, fun c n hcn => ?_, s.mem_due _⟩
  · exact (s.tickPresence_record p).trans (if_pos hh)
  · exact (s.tickPresence_record p).trans (if_neg hh)
  · refine (LineInterface.tick_released hl).trans ?_
    rw [gapTick_eq]
    cases s.line.slots <;> rfl
  · refine (LineInterface.tick_active hl).trans ?_
    rw [gapTick_eq]
    rfl
  · exact s.tickTime_eq.trans (if_neg hm)
  · exact s.tickTime_eq.trans (if_pos hm)
  · simp only [List.mem_cons, Prod.mk.injEq, List.not_mem_nil, or_false] at hcn
    rcases hcn with ⟨rfl, rfl⟩ | ⟨rfl, rfl⟩ | ⟨rfl, rfl⟩ | ⟨rfl, rfl⟩ | ⟨rfl, rfl⟩ | ⟨rfl, rfl⟩ | ⟨rfl, rfl⟩ |
      ⟨rfl, rfl⟩ | ⟨rfl, rfl⟩ | ⟨rfl, rfl⟩ | ⟨rfl, rfl⟩ | ⟨rfl, rfl⟩ <;> exact s.mem_due _

end Sys2Proof.Machine
end

section
/-! LINE FAULT (R17): which operations touch the line, and what each command does to the flag. -/

namespace Sys2Proof.Machine

/-! ### Operations that leave the line as it is -/

@[simp] theorem State.setFlag_line (s : State) (f : Fin 32) : (s.setFlag f).line = s.line := by
  unfold State.setFlag; split <;> rfl

/-- A change of flags one by one leaves alone what each change leaves alone. -/
theorem foldl_flags_line (mask : BitVec 32) (g : State → Fin 32 → State) (hg : ∀ s f, (g s f).line = s.line)
    (l : List (Fin 32)) (s : State) :
    (l.foldl (fun s f => if mask.getLsbD f.val then g s f else s) s).line = s.line := by
  induction l generalizing s with
  | nil => rfl
  | cons f l ih =>
    rw [List.foldl_cons, ih]
    split
    · exact hg s f
    · rfl

@[simp] theorem State.setFlagMask_line (s : State) (mask : BitVec 32) : (s.setFlagMask mask).line = s.line :=
  foldl_flags_line mask State.setFlag State.setFlag_line _ s

@[simp] theorem State.clearFlagMask_line (s : State) (mask : BitVec 32) : (s.clearFlagMask mask).line = s.line :=
  foldl_flags_line mask State.clearFlag State.clearFlag_line _ s

@[simp] theorem State.takeWaitRequest_line (s : State) (i : Fin 8) : (s.takeWaitRequest i).line = s.line := by
  unfold State.takeWaitRequest
  simp only
  repeat' split
  all_goals rfl

@[simp] theorem State.takeFlagRequest_line (s : State) (i : Fin 8) : (s.takeFlagRequest i).line = s.line := by
  unfold State.takeFlagRequest
  simp only
  split
  · split <;> simp
  · rfl

@[simp] theorem State.waitTimerExpires_line (s : State) (i : Fin 8) : (s.waitTimerExpires i).line = s.line := by
  unfold State.waitTimerExpires
  simp only
  split <;> rfl

@[simp] theorem State.takeExpiry_line (s : State) (i : Fin 8) : (s.takeExpiry i).line = s.line := by
  unfold State.takeExpiry
  split
  · split <;> rfl
  · rfl

@[simp] theorem State.takeRemoval_line (s : State) (i : Fin 8) : (s.takeRemoval i).line = s.line := by
  unfold State.takeRemoval
  split
  · split <;> rfl
  · rfl

@[simp] theorem State.takeSignal_line (s : State) (f : Fin 32) : (s.takeSignal f).1.line = s.line := by
  unfold State.takeSignal
  split
  · simp only
    split <;> exact s.setFlag_line f
  · rfl

@[simp] theorem State.presenceTakes_line (s : State) (h : Header) : (s.presenceTakes h).line = s.line := by
  rw [State.presenceTakes_eq]

@[simp] theorem State.takeAndFill_line (s : State) : s.takeAndFill.line = s.line := by
  unfold State.takeAndFill
  split
  · rename_i t ht
    rw [State.fill_line]
    exact (State.take_frame ht).2.1
  · rfl

@[simp] theorem State.observedCollision_line (s : State) : s.observedCollision.line = s.line := by
  rw [State.observedCollision_eq]

@[simp] theorem State.stuckNotice_line (s : State) : s.stuckNotice.line = s.line := by
  rw [State.stuckNotice_eq]

@[simp] theorem State.ownCompletion_line (s : State) (h : Header) : (s.ownCompletion h).line = s.line := by
  unfold State.ownCompletion; split <;> rfl

@[simp] theorem State.silenceExpires_line (s : State) : s.silenceExpires.line = s.line := by
  unfold State.silenceExpires
  split
  · split <;> rfl
  · rfl

@[simp] theorem State.beaconExpires_line (s : State) : s.beaconExpires.line = s.line := by
  unfold State.beaconExpires
  split
  · split <;> rfl
  · rfl

@[simp] theorem State.acknowledge_line (s : State) : s.acknowledge.line = s.line := by
  unfold State.acknowledge
  split
  · rfl
  · rw [State.fill_line]

/-! ### Takes that begin -/

theorem State.beginTake_line {s t : State} {a : Nat} {work : LineWork} (h : s.beginTake a work = .ok t) :
    t.line = s.line := by
  obtain ⟨-, rfl⟩ := State.beginTake_ok h; rfl

theorem State.newMessage_line {s : State} {h : Header} {ws : List Word} {r : State × ReplyCode}
    (hr : s.newMessage h ws = .ok r) : r.1.line = s.line := by
  unfold State.newMessage at hr
  simp only at hr
  repeat' split at hr
  · cases hr; rfl
  · cases hr; rfl
  · cases hr; rfl
  · cases hr; rfl
  · cases hr
  · cases hr; exact State.beginTake_line ‹_›

theorem State.dataWithoutContext_line {s : State} {h : Header} {ws : List Word} {r : State × ReplyCode}
    (hr : s.dataWithoutContext h ws = .ok r) : r.1.line = s.line := by
  unfold State.dataWithoutContext at hr
  repeat' split at hr
  · cases hr; rfl
  · cases hr; rfl
  · exact State.newMessage_line hr

theorem State.dataWithContext_line {s : State} {i : Fin 12} {c : Context} {h : Header} {ws : List Word}
    {r : State × ReplyCode} (hr : s.dataWithContext i c h ws = .ok r) : r.1.line = s.line := by
  unfold State.dataWithContext at hr
  repeat' split at hr
  · cases hr; rfl
  · cases hr
  · cases hr; exact State.beginTake_line ‹_›
  · cases hr; rfl
  · exact State.dataWithoutContext_line (s := { s with recv := s.recv.abandon i .superseded }) hr
  · cases hr; rfl

theorem State.dataArrival_line {s : State} {h : Header} {ws : List Word} {b : Bool} {r : State × ReplyCode}
    (hr : s.dataArrival h ws b = .ok r) : r.1.line = s.line := by
  unfold State.dataArrival at hr
  repeat' split at hr
  · cases hr; rfl
  · cases hr; rfl
  · exact State.dataWithContext_line hr
  · exact State.dataWithoutContext_line hr
  · exact State.dataWithoutContext_line hr

theorem State.windowWrite_line {s : State} {h : Header} {ws : List Word} {b : Bool} {r : State × ReplyCode}
    (hr : s.windowWrite h ws b = .ok r) : r.1.line = s.line := by
  unfold State.windowWrite at hr
  simp only at hr
  repeat' split at hr
  · cases hr; rfl
  · cases hr; rfl
  · cases hr
  · cases hr; exact State.beginTake_line ‹_›

theorem State.windowRead_line {s : State} {h : Header} {r : State × ReplyCode} (hr : s.windowRead h = .ok r) :
    r.1.line = s.line := by
  unfold State.windowRead at hr
  simp only at hr
  repeat' split at hr
  · cases hr; rfl
  · cases hr
  · cases hr; exact State.beginTake_line ‹_›

/-! ### Operations that keep LINE FAULT -/

@[simp] theorem State.settleTake_lineFault (s : State) : s.settleTake.line.lineFault = s.line.lineFault := by
  rw [State.settleTake_line, State.finishTake_line]

@[simp] theorem State.takeGoesOn_lineFault (s : State) (a : Nat) (work : LineWork) :
    (s.takeGoesOn a work).line.lineFault = s.line.lineFault := by
  unfold State.takeGoesOn; split <;> rfl

@[simp] theorem State.lineAccess_lineFault (s : State) : s.lineAccess.line.lineFault = s.line.lineFault := by
  unfold State.lineAccess
  split
  · rfl
  · split <;> rw [State.takeGoesOn_lineFault]

@[simp] theorem State.lineAccesses_lineFault (n : Nat) (s : State) :
    (State.lineAccesses n s).line.lineFault = s.line.lineFault := by
  induction n generalizing s with
  | zero => rfl
  | succ n ih => rw [State.lineAccesses, ih, State.lineAccess_lineFault]

@[simp] theorem State.servesTake_lineFault (s : State) (pause : Option Nat) :
    (s.servesTake pause).line.lineFault = s.line.lineFault := by
  cases pause with
  | none => rfl
  | some k => exact s.lineAccesses_lineFault k

@[simp] theorem State.enterOffline_lineFault (s : State) (r : Reason) :
    (s.enterOffline r).line.lineFault = s.line.lineFault := s.settleTake_lineFault

@[simp] theorem State.enterFaulted_lineFault (s : State) (r : Reason) :
    (s.enterFaulted r).line.lineFault = s.line.lineFault := s.settleTake_lineFault

@[simp] theorem State.drainTest_lineFault (s : State) : s.drainTest.line.lineFault = s.line.lineFault := by
  rcases s.drainTest_cases with ⟨h, -⟩ | ⟨h, -⟩ <;> rw [h]
  exact s.enterOffline_lineFault .drained

@[simp] theorem State.ownCollision_lineFault (s : State) : s.ownCollision.line.lineFault = s.line.lineFault := by
  unfold State.ownCollision
  simp only
  split
  · exact State.enterFaulted_lineFault _ _
  · rfl

@[simp] theorem State.headerFails_lineFault (s : State) (k : FrameClass) :
    (s.headerFails k).line.lineFault = s.line.lineFault := by
  by_cases hk : k = .contention ∨ s.ctl.sync = .unsynced
  · rw [State.headerFails_counts hk]
    split
    · rw [State.enterFaulted_lineFault]; rfl
    · rfl
  · cases k with
    | contention => exact absurd (.inl rfl) hk
    | reply =>
      cases hy : s.ctl.sync with
      | unsynced => exact absurd (.inr hy) hk
      | synced => rw [State.headerFails_ignored hy]

@[simp] theorem State.collide_lineFault (s : State) (f : Transmission) :
    (s.collide f).line.lineFault = s.line.lineFault := by
  unfold State.collide
  simp only
  split
  · rw [State.observedCollision_line]; rfl
  · rw [State.observedCollision_line]
    split
    · rw [State.ownCollision_lineFault]; rfl
    · rfl

@[simp] theorem State.ownFrameEnds_lineFault (s : State) (f : Transmission) :
    (s.ownFrameEnds f).line.lineFault = s.line.lineFault := by
  unfold State.ownFrameEnds
  simp only
  split
  · rfl
  · rw [State.ownCompletion_line]; rfl

@[simp] theorem State.closeExchange_lineFault (s : State) : s.closeExchange.line.lineFault = s.line.lineFault := by
  unfold State.closeExchange
  split
  · rfl
  · simp only
    rw [State.drainTest_lineFault]
    split <;> rfl

@[simp] theorem State.beginFrame_lineFault (s : State) (o : Owner) :
    (s.beginFrame o).line.lineFault = s.line.lineFault := by
  cases o <;> rfl

@[simp] theorem State.turn_lineFault (s : State) : s.turn.line.lineFault = s.line.lineFault := by
  unfold State.turn
  split
  · rfl
  · split
    · exact s.beginFrame_lineFault _
    · rfl

@[simp] theorem State.slotStarts_lineFault (s : State) : s.slotStarts.line.lineFault = s.line.lineFault := by
  unfold State.slotStarts
  simp only
  split
  · rw [State.turn_lineFault]
  · rfl

@[simp] theorem LineInterface.idleBitTime_lineFault (x : LineInterface) : x.idleBitTime.lineFault = x.lineFault := by
  unfold LineInterface.idleBitTime
  repeat' split
  all_goals rfl

@[simp] theorem State.contextExpires_lineFault (s : State) (i : Fin 12) :
    (s.contextExpires i).line.lineFault = s.line.lineFault := by
  unfold State.contextExpires
  simp only
  split
  · exact s.settleTake_lineFault
  · rfl

@[simp] theorem State.presenceExpires_lineFault (s : State) (p : Fin 32) :
    (s.presenceExpires p).line.lineFault = s.line.lineFault := by
  unfold State.presenceExpires
  simp only
  split
  · exact s.settleTake_lineFault
  · rfl

/-! ### Deliveries -/

theorem State.answered_lineFault {s t : State} {r : Except Fault (State × ReplyCode)} {h : Header}
    (hr : ∀ x, r = .ok x → x.1.line = s.line) (ht : State.answered r h = .ok t) :
    t.line.lineFault = s.line.lineFault := by
  unfold State.answered at ht
  split at ht
  · cases ht
  · rename_i u code
    cases ht
    show u.line.lineFault = _
    rw [hr (u, code) rfl]

theorem State.signalArrival_lineFault (s : State) (h : Header) :
    (s.signalArrival h).line.lineFault = s.line.lineFault := by
  unfold State.signalArrival
  simp only
  split
  · rw [State.takeSignal_line]
  · show (s.takeSignal h.selector).1.line.lineFault = _
    rw [State.takeSignal_line]

theorem State.handOn_lineFault {s t : State} {d : Delivery} (h : s.handOn d = .ok t) :
    t.line.lineFault = s.line.lineFault := by
  unfold State.handOn at h
  simp only at h
  split at h
  · exact State.answered_lineFault (fun x hx => State.dataArrival_line hx) h
  · exact State.answered_lineFault (fun x hx => State.windowWrite_line hx) h
  · split at h <;> (cases h; rfl)
  · split at h
    · cases h; rfl
    · exact State.answered_lineFault (fun x hx => State.windowRead_line hx) h
  · repeat' split at h
    · cases h; rfl
    · cases h; rfl
    · cases h; exact s.signalArrival_lineFault _
  · cases h; rfl
  · cases h; rfl
  · cases h; rfl
  · cases h; rfl

theorem State.judge_lineFault {s t : State} {d : Delivery} (h : s.judge d = .ok t) :
    t.line.lineFault = s.line.lineFault := by
  unfold State.judge at h
  repeat' split at h
  · cases h; rfl
  · cases h; rfl
  · cases h; rfl
  · cases h; rfl
  · exact State.handOn_lineFault h

theorem State.deliver_lineFault {s t : State} {d : Delivery} (h : s.deliver d = .ok t) :
    t.line.lineFault = s.line.lineFault := by
  unfold State.deliver at h
  simp only at h
  repeat' split at h
  · cases h; rfl
  · cases h; exact s.headerFails_lineFault _
  · rw [State.judge_lineFault h, State.presenceTakes_line]

theorem State.frameDelivered_lineFault {s t : State} {f : FrameEnd} (h : s.frameDelivered f = .ok t) :
    t.line.lineFault = s.line.lineFault := by
  unfold State.frameDelivered at h
  simp only at h
  repeat' split at h
  · cases h
  · rename_i u hu
    cases h
    rw [State.fill_line, State.servesTake_lineFault, State.deliver_lineFault hu]
    exact s.settleTake_lineFault
  · cases h; rfl

/-! ### Word accesses -/

theorem State.laneReads_line {s t : State} {i : Fin 8} {a : Nat} {f : Word → Lane → Lane}
    (h : s.laneReads i a f = .ok t) : t.line = s.line := by
  unfold State.laneReads at h
  split at h <;> cases h
  rfl

theorem State.laneStores_line {s t : State} {i : Fin 8} {a : Nat} {w : Word} {f : Lane → Lane}
    (h : s.laneStores i a w f = .ok t) : t.line = s.line := by
  unfold State.laneStores at h
  split at h <;> cases h
  rename_i u hu
  obtain ⟨-, rfl⟩ := State.writeWord_ok hu
  rfl

theorem State.laneAccess_lineFault {s t : State} {i : Fin 8} (h : s.laneAccess i = .ok t) :
    t.line.lineFault = s.line.lineFault := by
  unfold State.laneAccess at h
  simp only at h
  split at h
  · rw [State.laneReads_line h]
  · rw [State.laneStores_line h]
  · rw [State.laneReads_line h]
  · rw [State.laneStores_line h]
  · cases h; rfl
  · rw [State.laneStores_line h]
  · split at h <;> cases h
    rw [State.drainTest_lineFault, State.laneStores_line ‹_›]
  all_goals cases h; rfl

theorem State.serveLane_lineFault {s t : State} (h : s.serveLane = .ok t) : t.line.lineFault = s.line.lineFault := by
  unfold State.serveLane at h
  repeat' split at h
  · cases h; rfl
  · cases h
  · rename_i u hu
    cases h
    rw [State.fill_line, State.laneAccess_lineFault hu]

/-! ### Host accesses -/

/-- A page word names word 4 exactly at host address 16388. -/
theorem pageWord_eq_four {a : BitVec 15} (hlow : ¬a.toNat < 16384) (hhigh : a.toNat < 16416)
    (h : (BitVec.ofNat 5 (a.toNat - 16384)).toNat = 4) : a = 16388 := by
  refine BitVec.eq_of_toNat_eq ?_
  rw [BitVec.toNat_ofNat] at h
  show a.toNat = 16388
  omega

/-- A write to any page word but word 4 leaves the line as it is (Table 11.2). -/
theorem State.pageWrite_line {s : State} {page : BitVec 5} (h : page.toNat ≠ 4) (v : Word) :
    (s.pageWrite page v).line = s.line := by
  unfold State.pageWrite
  split
  case h_2 heq => exact absurd heq h
  case h_3 => exact s.acknowledge_line
  all_goals rfl

/-- A host write to any address but that of word 4 leaves the line as it is (Table 11.1). -/
theorem State.hostWrite_line {s : State} {a : BitVec 15} (h : a ≠ 16388) (v : Word) :
    (s.hostWrite a v).line = s.line := by
  unfold State.hostWrite
  repeat' split
  · rfl
  · rename_i hlow hhigh
    exact State.pageWrite_line (fun h4 => h (pageWord_eq_four hlow hhigh h4)) v
  · rfl

theorem State.serveHost_line {s : State} {c : HostClaim} (h : ∀ v, c ≠ .write 16388 v) :
    (s.serveHost c).line = s.line := by
  cases c with
  | write a v => exact State.hostWrite_line (fun ha => h v (by rw [ha])) v
  | read a driven => rfl

theorem State.hostAccess_line {s : State} {c : HostClaim} (h : ∀ v, c ≠ .write 16388 v) :
    (s.hostAccess c).line = s.line := by
  unfold State.hostAccess
  simp only
  split
  · exact State.serveHost_line h
  · rfl

theorem State.serveClaim_lineFault {s t : State} (ht : s.serveClaim = .ok t)
    (h : ∀ v rest, s.mem.lineClaims = false → s.host.claims ≠ .write 16388 v :: rest) :
    t.line.lineFault = s.line.lineFault := by
  unfold State.serveClaim at ht
  split at ht
  · cases ht
    rw [State.fill_line, State.lineAccess_lineFault]
  · rename_i hl
    split at ht
    · rename_i c rest hc
      cases ht
      rw [State.serveHost_line (fun v hv => h v rest (by simpa using hl) (by rw [hc, hv]))]
    · exact State.serveLane_lineFault ht

/-! ### Slot commands -/

theorem State.doJoin_line (s : State) : s.doJoin.1.line = s.line := by
  unfold State.doJoin
  repeat' split
  all_goals rfl

theorem State.doLeave_lineFault (s : State) : s.doLeave.1.line.lineFault = s.line.lineFault := by
  unfold State.doLeave
  split
  · rfl
  · simp only [State.drainTest_lineFault]
    split
    · exact s.settleTake_lineFault
    · rfl
  · exact s.enterOffline_lineFault .forced
  · exact s.enterOffline_lineFault .forced

theorem State.doStartLane_line (s : State) : s.doStartLane.1.line = s.line := by
  unfold State.doStartLane
  simp only
  repeat' split
  all_goals rfl

theorem State.doStopLane_line (s : State) : s.doStopLane.1.line = s.line := by
  unfold State.doStopLane
  repeat' split
  all_goals rfl

theorem State.doOpenPort_lineFault (s : State) : s.doOpenPort.1.line.lineFault = s.line.lineFault := by
  unfold State.doOpenPort
  split
  · rfl
  · exact s.settleTake_lineFault

theorem State.doClosePort_lineFault (s : State) : s.doClosePort.1.line.lineFault = s.line.lineFault := by
  unfold State.doClosePort
  split
  · rfl
  · exact s.settleTake_lineFault

theorem State.doPostReceive_lineFault (s : State) : s.doPostReceive.1.line.lineFault = s.line.lineFault := by
  unfold State.doPostReceive
  simp only
  repeat' split
  · rfl
  · rfl
  · rfl
  · exact s.settleTake_lineFault

theorem State.doLoadWindow_lineFault (s : State) : s.doLoadWindow.1.line.lineFault = s.line.lineFault := by
  unfold State.doLoadWindow
  simp only
  repeat' split
  · rfl
  · rfl
  · exact s.settleTake_lineFault

theorem State.doClearWindow_lineFault (s : State) : s.doClearWindow.1.line.lineFault = s.line.lineFault := by
  unfold State.doClearWindow
  split
  · rfl
  · exact s.settleTake_lineFault

/-- The completion of a slot command does not touch the line (R166). -/
theorem takeCommand_lineFault {s t : State} {named : BitVec 8 → Bool} {f : State → State × CommandResult}
    (h : takeCommand s named f = .next t) (hf : (f s).1.line.lineFault = s.line.lineFault) :
    t.line.lineFault = s.line.lineFault := by
  rcases takeCommand_next h with rfl | ⟨-, -, -, rfl⟩
  · rfl
  · rw [State.fill_line]; exact hf

/-! ### Commands -/

/-- An event keeps what its effect keeps. -/
theorem event_lineFault {s t : State} {f : State → State} (h : event s f = .next t)
    (hf : (f s).line.lineFault = s.line.lineFault) : t.line.lineFault = s.line.lineFault := by
  rcases event_next h with ⟨-, rfl⟩ | ⟨-, rfl⟩
  · rfl
  · exact hf

/-- A write to control page word 4 as it may be served by this command (R17, R159). -/
def State.servesCauses (s : State) (c : Instr) : Prop :=
  (∃ v, c = .writeCauses v) ∨ (∃ v, c = .controlPageWrite 4 v) ∨ (∃ v, c = .hostMemoryWrite 16388 (.write v)) ∨
    c = .laneWordAccess ∧ s.mem.lineClaims = false ∧ ∃ v rest, s.host.claims = .write 16388 v :: rest

/-- A control page word's host address is 16388 only for word 4 (Table 11.1). -/
theorem controlAddress_ne {page : BitVec 5} (h : page ≠ 4) : controlAddress page ≠ 16388 := by
  intro ha
  refine h (BitVec.eq_of_toNat_eq ?_)
  have hn := congrArg BitVec.toNat ha
  have hp := page.isLt
  rw [controlAddress, BitVec.toNat_ofNat, Config.memoryWords] at hn
  show page.toNat = 4
  simp at hn
  omega

/-- A host access to another address than that of word 4, as an event. -/
theorem hostAccess_lineFault {s t : State} {c : HostClaim} (h : (event s fun s => s.hostAccess c) = .next t)
    (hc : ∀ v, c ≠ .write 16388 v) : t.line.lineFault = s.line.lineFault :=
  event_lineFault h (by rw [State.hostAccess_line hc])

/-- A write to a control page word other than word 4, as an event. -/
theorem pageAccess_lineFault {s t : State} {page : BitVec 5} {v : Word}
    (h : (event s fun s => s.hostAccess (.write (controlAddress page) v)) = .next t) (hp : page ≠ 4) :
    t.line.lineFault = s.line.lineFault := by
  refine hostAccess_lineFault h fun w hw => ?_
  injection hw with ha
  exact controlAddress_ne hp ha

/-- Every command but a reset, a stuck condition and a write to word 4 leaves LINE FAULT as it is (R17). -/
theorem exec_keeps_lineFault {s t : State} {c : Instr} (h : exec c s = .next t) (hreset : c.isReset = false)
    (hstuck : c ≠ .stuckCondition) (hw : ¬s.servesCauses c) : t.line.lineFault = s.line.lineFault := by
  unfold exec at h
  cases c with
  | powerOnReset | pinReset | resetRelease => cases hreset
  | stuckCondition => exact absurd rfl hstuck
  | frameDelivery f =>
    rcases eventWithAccess_next h with ⟨-, rfl⟩ | ⟨-, ht⟩
    · rfl
    · exact State.frameDelivered_lineFault ht
  | laneWordAccess =>
    rcases eventWithAccess_next h with ⟨-, rfl⟩ | ⟨-, ht⟩
    · rfl
    · exact State.serveClaim_lineFault ht fun v rest hl hc => hw (.inr (.inr (.inr ⟨rfl, hl, v, rest, hc⟩)))
  | lineDisturbance =>
    refine event_lineFault h ?_
    split
    · rw [State.fill_line, State.observedCollision_line]; rfl
    · rfl
  | readBackMismatch =>
    refine event_lineFault h ?_
    repeat' split
    · rw [State.fill_line, State.collide_lineFault]
    · rfl
    · rfl
  | jamEnd released =>
    refine event_lineFault h ?_
    split
    · cases released <;> rfl
    · rfl
  | lineIdle => exact event_lineFault h s.line.idleBitTime_lineFault
  | stuckConditionEnd =>
    refine event_lineFault h ?_
    split <;> rfl
  | exchangeEnd =>
    refine event_lineFault h ?_
    split
    · rw [State.fill_line, State.closeExchange_lineFault]; rfl
    · rfl
  | drainComplete => exact event_lineFault h (by rw [State.fill_line, State.drainTest_lineFault])
  | slotStart =>
    refine event_lineFault h ?_
    split
    · exact s.slotStarts_lineFault
    · rfl
  | replyStart =>
    refine event_lineFault h ?_
    repeat' split
    all_goals rfl
  | ownFrameCompletion =>
    refine event_lineFault h ?_
    repeat' split
    · exact s.ownFrameEnds_lineFault _
    · rfl
    · rfl
  | silenceTimerExpiry => exact event_lineFault h (by rw [State.fill_line, State.silenceExpires_line])
  | beaconTimerExpiry => exact event_lineFault h (by rw [State.beaconExpires_line])
  | holdTimerExpiry i =>
    refine event_lineFault h ?_
    split <;> rfl
  | waitTimerExpiry i => exact event_lineFault h (by rw [State.waitTimerExpires_line])
  | waitExpiryTake i => exact event_lineFault h (by rw [State.takeExpiry_line])
  | waitRequestTake i => exact event_lineFault h (by rw [State.takeWaitRequest_line])
  | flagRequestTake i => exact event_lineFault h (by rw [State.takeFlagRequest_line])
  | waitRemovalTake i => exact event_lineFault h (by rw [State.takeRemoval_line])
  | contextTimerExpiry i => exact event_lineFault h (by rw [State.fill_line, State.contextExpires_lineFault])
  | presenceTimerExpiry p => exact event_lineFault h (by rw [State.fill_line, State.presenceExpires_lineFault])
  | queueTake => exact event_lineFault h (by rw [State.takeAndFill_line])
  | hostMemoryWrite a strobe =>
    cases strobe with
    | write v =>
      refine hostAccess_lineFault h fun w hc => ?_
      injection hc with ha
      exact hw (.inr (.inr (.inl ⟨v, by rw [ha]⟩)))
    | read => exact hostAccess_lineFault h fun v hc => by cases hc
    | readEnds => exact event_lineFault h rfl
  | writeCauses v => exact absurd (.inl ⟨v, rfl⟩) hw
  | controlPageWrite page v => exact pageAccess_lineFault h fun hp => hw (.inr (.inl ⟨v, by rw [hp]⟩))
  | writeInterruptEnables v => exact pageAccess_lineFault h (by decide)
  | eventAcknowledge v => exact pageAccess_lineFault h (by decide)
  | commandWordWrite v => exact pageAccess_lineFault h (by decide)
  | timeBaseLowRead => exact hostAccess_lineFault h fun v hc => by cases hc
  | firstActiveHalfBit =>
    refine event_lineFault h ?_
    split <;> rfl
  | join => exact takeCommand_lineFault h (by rw [State.doJoin_line])
  | leave => exact takeCommand_lineFault h s.doLeave_lineFault
  | startLane => exact takeCommand_lineFault h (by rw [State.doStartLane_line])
  | stopLane => exact takeCommand_lineFault h (by rw [State.doStopLane_line])
  | openPort => exact takeCommand_lineFault h s.doOpenPort_lineFault
  | closePort => exact takeCommand_lineFault h s.doClosePort_lineFault
  | postReceive => exact takeCommand_lineFault h s.doPostReceive_lineFault
  | loadWindow => exact takeCommand_lineFault h s.doLoadWindow_lineFault
  | clearWindow => exact takeCommand_lineFault h s.doClearWindow_lineFault
  | setFlags => exact takeCommand_lineFault h (congrArg LineInterface.lineFault (s.setFlagMask_line _))
  | clearFlags => exact takeCommand_lineFault h (congrArg LineInterface.lineFault (s.clearFlagMask_line _))
  | setSignalMasks => exact takeCommand_lineFault h rfl
  | unknownCommand => exact takeCommand_lineFault h rfl

/-- A stuck condition that begins sets LINE FAULT (R16, R17). -/
theorem exec_stuckCondition_lineFault {s : State} (h : s.resetHeld = false) (hr : s.line.running = true)
    (hs : s.line.stuck = false) : ∃ t, exec .stuckCondition s = .next t ∧ t.line.lineFault = true := by
  refine ⟨_, by rw [exec_stuckCondition h, if_pos ⟨hr, hs⟩], ?_⟩
  rw [State.fill_line, State.stuckNotice_line]; rfl

/-- A set LINE FAULT stays set through STUCK_CONDITION, whether or not the condition begins. -/
theorem exec_stuckCondition_sticky {s t : State} (h : exec .stuckCondition s = .next t)
    (hl : s.line.lineFault = true) : t.line.lineFault = true := by
  unfold exec at h
  rcases event_next h with ⟨-, rfl⟩ | ⟨-, rfl⟩
  · exact hl
  · split
    · rw [State.fill_line, State.stuckNotice_line]; rfl
    · exact hl

/-! ### Writes to word 4 -/

theorem State.hostWrite_causes (s : State) (v : Word) : s.hostWrite 16388 v = s.writeCauses v := rfl

/-- A host write to word 4 on a free path is served at once (R159). -/
theorem State.hostAccess_causes {s : State} (h : s.hostPathFree = true) (v : Word) :
    s.hostAccess (.write 16388 v) = ({ s with host := { s.host with dataOut := none } } : State).writeCauses v := by
  rw [State.hostAccess_free h]
  exact State.hostWrite_causes _ v

/-- A command by which a host write to word 4 is served changes, beside the host port, only LINE FAULT (R17, R159). -/
theorem exec_servesCauses {s : State} {c : Instr} {v : Word} (h : s.resetHeld = false)
    (hc : (c = .writeCauses v ∨ c = .controlPageWrite 4 v ∨ c = .hostMemoryWrite 16388 (.write v)) ∧
        s.hostPathFree = true ∨
      c = .laneWordAccess ∧ s.mem.lineClaims = false ∧ ∃ rest, s.host.claims = .write 16388 v :: rest) :
    ∃ p, exec c s = .next (({ s with host := p } : State).writeCauses v) := by
  rcases hc with ⟨hc, hfree⟩ | ⟨rfl, hl, rest, hrest⟩
  · refine ⟨{ s.host with dataOut := none }, ?_⟩
    have hevent : exec c s = event s fun s => s.hostAccess (.write 16388 v) := by
      rcases hc with rfl | rfl | rfl <;> rfl
    rw [hevent, event_running h, State.hostAccess_causes hfree]
  · refine ⟨{ s.host with claims := rest }, eventWithAccess_ok h ?_⟩
    simp only [State.serveClaim, hl, hrest, Bool.false_eq_true, if_false]
    rfl

/-! ### What the host sees -/

/-- LINE FAULT is bit 1 of control page word 4 (R17, R157). -/
theorem State.hostRead_causes (s : State) : (s.hostRead 16388).getLsbD 1 = s.line.lineFault := by
  show s.causesWord.getLsbD 1 = s.line.lineFault
  rw [State.causesWord]
  cases s.host.commandDone <;> cases s.line.lineFault <;> rfl

/-! ### The flag does not keep the station from sending -/

/-- The state with LINE FAULT at `f`. -/
def State.withLineFault (s : State) (f : Bool) : State := { s with line := { s.line with lineFault := f } }

theorem State.beginFrame_withLineFault (s : State) (f : Bool) (o : Owner) :
    (s.withLineFault f).beginFrame o = (s.beginFrame o).withLineFault f := by
  cases o <;> rfl

theorem State.turn_withLineFault (s : State) (f : Bool) : (s.withLineFault f).turn = s.turn.withLineFault f := by
  have hchoose : (s.withLineFault f).choose = s.choose := rfl
  have hopen : (s.withLineFault f).sched.exchange = s.sched.exchange := rfl
  simp only [State.turn, hchoose, hopen]
  split
  · rfl
  · split
    · exact s.beginFrame_withLineFault f _
    · rfl

theorem State.slotStarts_withLineFault (s : State) (f : Bool) :
    (s.withLineFault f).slotStarts = s.slotStarts.withLineFault f := by
  have hphase (p : Nat) :
      (if s.mayBegin p then ((s.inSlot p).withLineFault f).turn else (s.inSlot p).withLineFault f) =
        (if s.mayBegin p then (s.inSlot p).turn else s.inSlot p).withLineFault f := by
    rw [State.turn_withLineFault]
    split <;> rfl
  exact hphase _

/-- An event that does the same whatever LINE FAULT is. -/
theorem event_withLineFault {s : State} {f : Bool} {g : State → State}
    (hg : g (s.withLineFault f) = (g s).withLineFault f) :
    ∃ t, event s g = .next t ∧ event (s.withLineFault f) g = .next (t.withLineFault f) := by
  cases hr : s.resetHeld with
  | true => exact ⟨s, event_held hr g, event_held (s := s.withLineFault f) hr g⟩
  | false => exact ⟨g s, event_running hr g, (event_running (s := s.withLineFault f) hr g).trans (by rw [hg])⟩

theorem exec_slotStart_withLineFault (s : State) (f : Bool) :
    ∃ t, exec .slotStart s = .next t ∧ exec .slotStart (s.withLineFault f) = .next (t.withLineFault f) := by
  unfold exec
  refine event_withLineFault ?_
  rw [apply_ite (State.withLineFault · f), ← State.slotStarts_withLineFault]
  rfl

theorem exec_replyStart_withLineFault (s : State) (f : Bool) :
    ∃ t, exec .replyStart s = .next t ∧ exec .replyStart (s.withLineFault f) = .next (t.withLineFault f) := by
  unfold exec
  refine event_withLineFault ?_
  have hreply : (s.withLineFault f).line.reply = s.line.reply := rfl
  rw [hreply]
  cases s.line.reply with
  | none => rfl
  | some r =>
    simp only
    rw [apply_ite (State.withLineFault · f)]
    rfl

/-- Settles O11: the flag is set by the stuck condition, cleared only by the write that R17 names, shown to the host, and
kept by every other command. -/
theorem lineFaultIsSticky : Obligations.LineFaultIsSticky := by
  intro s v
  refine ⟨exec_stuckCondition_lineFault, fun c h hc => ?_, fun hl he => by simp [State.hint, hl, he],
    s.hostRead_causes, fun c hc f => ?_, fun c hc => ?_, fun t c h hl hreset h1 h2 h3 h4 => ?_⟩
  · obtain ⟨p, hp⟩ := exec_servesCauses h hc
    have hfault : (({ s with host := p } : State).writeCauses v).line.lineFault =
        (s.line.lineFault && !(v.getLsbD 1 && !s.line.stuck)) := rfl
    refine ⟨_, hp, rfl, rfl, rfl, fun hb hs => ?_, fun hb hs => ?_, fun hb => ?_⟩ <;> rw [hfault, hb]
    · rw [hs]; exact Bool.and_false _
    · rw [hs]; exact Bool.and_true _
    · exact Bool.and_true _
  · simp only [List.mem_cons, List.not_mem_nil, or_false] at hc
    rcases hc with rfl | rfl
    · exact exec_slotStart_withLineFault s f
    · exact exec_replyStart_withLineFault s f
  · simp only [List.mem_cons, List.not_mem_nil, or_false] at hc
    rcases hc with rfl | rfl <;> exact ⟨_, rfl, rfl⟩
  · by_cases hstuck : c = .stuckCondition
    · subst hstuck
      exact exec_stuckCondition_sticky h hl
    · rw [exec_keeps_lineFault h hreset hstuck, hl]
      rintro (⟨w, hw⟩ | ⟨w, hw⟩ | ⟨w, hw⟩ | ⟨hw, hclaims, w, rest, hrest⟩)
      · exact h1 w hw
      · exact h2 w hw
      · exact h3 w hw
      · exact h4 w rest hclaims hrest hw

end Sys2Proof.Machine
end

section
/-! What a command can do, said once: it is a chain of moves, each a change of one block under the condition of its rule.
The invariants of the whole part are kept move by move. -/

namespace Sys2Proof.Machine

open Relation

/-! ### Moves -/

/-- The station is on the line, at least where it is quiet off the line (R27, R28). -/
def State.awake (s : State) : Prop := s.quietOffLine → s.onLine = true

/-- The reasons with which a command brings sync to a value (Table 2.4). -/
def syncReason (c : Instr) : Sync → Reason → Prop
  | .synced, r =>
    (∃ f, c = .frameDelivery f) ∧ r = .heard ∨ (c = .lineDisturbance ∨ c = .readBackMismatch) ∧ r = .collision ∨
      c = .silenceTimerExpiry ∧ r = .silence
  | .unsynced, r => (∃ f, c = .frameDelivery f) ∧ r = .header ∨ c = .stuckCondition ∧ r = .stuck

/-- The reasons with which a command takes a station to OFFLINE (Table 2.3). -/
def offlineReason (c : Instr) (p : Participation) (r : Reason) : Prop :=
  p = .leaving ∧ (c = .exchangeEnd ∨ c = .laneWordAccess ∨ c = .drainComplete ∨ c = .leave) ∧ r = .drained ∨
    (p = .leaving ∨ p = .faulted) ∧ c = .leave ∧ r = .forced

/-- The reasons with which a command takes a station to FAULTED (Table 2.3). -/
def faultReason (c : Instr) (r : Reason) : Prop :=
  c = .readBackMismatch ∧ r = .duplicateStation ∨ (∃ f, c = .frameDelivery f) ∧ r = .lineUnusable

/-- A command that may set or clear a flag (R88, R101, R104, R106). -/
def reachesFlags : Instr → Bool
  | .setFlags | .clearFlags | .waitRequestTake _ | .flagRequestTake _ | .frameDelivery _ => true
  | _ => false

/-- The straps, the epoch and the participation of a station controller are those of another. -/
structure StationController.SameStation (x k : StationController) : Prop where
  number : x.number = k.number
  count : x.count = k.count
  rate : x.rate = k.rate
  epoch : x.epoch = k.epoch
  participation : x.participation = k.participation

/-- What the host defines of a window entry (R131). -/
def Window.definition (w : Window) : Window := { w with updates := 0, lastWriter := none, pending := 0 }

/-- A segment store takes no more buffers of its port than it gives back (R110, R119, R121). -/
def ReceiveUnit.storeCounts (r : ReceiveUnit) (i : Fin 12) (c : Context) (opens : Bool) : Prop :=
  if opens then r.contexts[i] = none ∧ r.ports[c.port].posted ≠ []
  else ∃ d, r.contexts[i] = some d ∧ d.port = c.port

/-- The same of whatever a line-side take has still to do. -/
def ReceiveUnit.workCounts (r : ReceiveUnit) (work : LineWork) : Prop :=
  ∀ rest i c opens, work = .store rest (.segment i c opens) → r.storeCounts i c opens

/-- One move of command `c`: a change of one block of the part. -/
inductive Move (c : Instr) : State → State → Prop
  /-- The event queue takes a report (R153). -/
  | reports {s t : State} (h : s.take = some t) : Move c s t
  | line (s : State) (x : LineInterface) (h : s.awake ∨ (s.line.reply = none → x.reply = none)) :
    Move c s { s with line := x }
  /-- The silence timer counts or restarts (R38). -/
  | silence (s : State) (a : Option Nat) (h : s.ctl.silence = none → a = none) :
    Move c s { s with ctl := { s.ctl with silence := a } }
  /-- The station controller learns from the line or a timer (R30 to R39). -/
  | learns (s : State) (x : StationController) (ha : s.awake) (hx : x.SameStation s.ctl)
    (hr : x.sync = s.ctl.sync ∧ x.reason = s.ctl.reason ∨ syncReason c x.sync x.reason) :
    Move c s { s with ctl := x }
  | joins (s : State) (hc : c = .join) (hp : s.ctl.participation = .offline) : Move c s { s with ctl := s.ctl.joined }
  | departs (s : State) (hc : c = .leave) (hp : s.ctl.participation = .active) :
    Move c s { s with ctl := { s.ctl.record .leave with participation := .leaving } }
  | goesOffline (s : State) (r : Reason) (ht : s.mem.take = none) (hr : offlineReason c s.ctl.participation r) :
    Move c s { s.leaveLine .offline r with recv := s.recv.offline, presence := s.presence.offline s.ctl.number }
  | faults (s : State) (r : Reason) (ht : s.mem.take = none) (ho : s.onLine = true) (hr : faultReason c r) :
    Move c s { s.leaveLine .faulted r with recv := s.recv.faulted }
  | sched (s : State) (x : Scheduler)
    (h : s.awake ∨ (s.sched.pendingAnnounce = false → x.pendingAnnounce = false) ∧
      (s.sched.beaconDue = false → x.beaconDue = false)) : Move c s { s with sched := x }
  | lanes (s : State) (x : Vector Lane 8) : Move c s { s with lanes := x }
  | setsFlag (s : State) (f : Fin 32) (hc : reachesFlags c = true) : Move c s (s.setFlag f)
  | clearsFlag (s : State) (f : Fin 32) (hc : reachesFlags c = true) : Move c s (s.clearFlag f)
  /-- Waits, the signalled set and the two masks (R101 to R107). -/
  | flagUnit (s : State) (u : FlagUnit) (hf : u.flags = s.flags.flags)
    (hl : ∀ f : Fin 32, s.flags.isSet f = true → s.flags.lists[f] = [] → u.lists[f] = [])
    (hm : u.accept = s.flags.accept ∧ u.notify = s.flags.notify ∨ c = .setSignalMasks) :
    Move c s { s with flags := u }
  /-- The receive unit acts with no take in progress: no port counts more buffers, and no context opens. -/
  | receives (s : State) (x : ReceiveUnit) (ht : s.mem.take = none)
    (hb : ∀ q : Fin 16, x.bufferCount q ≤ s.recv.bufferCount q)
    (ho : (∀ q : Fin 16, x.ports[q].isOpen = s.recv.ports[q].isOpen) ∨ c = .openPort ∨ c = .closePort)
    (hn : ∀ i : Fin 12, s.recv.contexts[i] = none → x.contexts[i] = none) : Move c s { s with recv := x }
  /-- A buffer is posted (R111). -/
  | posts (s : State) (p : Fin 16) (b : Buffer) (hc : c = .postReceive) :
    Move c s { s with recv := s.recv.updatePort p fun x => { x with posted := x.posted ++ [b] } }
  | window (s : State) (w : Fin 8) (f : Window → Window)
    (h : (f s.windows[w]).definition = s.windows[w].definition ∨ c = .loadWindow ∨ c = .clearWindow) :
    Move c s (s.updateWindow w f)
  | presence (s : State) (x : PresenceTable) : Move c s { s with presence := x }
  /-- A word of buffer memory or the lane pointer (R158, R160). -/
  | memory (s : State) (m : BufferMemory) (hw : s.mem.wf = true → m.wf = true) (ht : m.take = s.mem.take) :
    Move c s { s with mem := m }
  /-- A block begins a take for a delivery on the line (R119, R134, R135). -/
  | begins (s : State) (k : LineTake) (ho : s.onLine = true) (hi : k.address + k.work.remaining ≤ Config.memoryWords)
    (hk : s.recv.workCounts k.work) : Move c s { s with mem := { s.mem with take := some k } }
  /-- One word access of the take in progress (R161). -/
  | accesses (s : State) : Move c s s.lineAccess

/-- A chain of moves of command `c`. -/
abbrev Moves (c : Instr) : State → State → Prop := ReflTransGen (Move c)

/-- What each move of a command keeps, a chain of its moves keeps. -/
theorem Moves.keep {c : Instr} {s t : State} {P : State → Prop} (h : Moves c s t) (hs : P s)
    (hstep : ∀ u v, Move c u v → P u → P v) : P t := by
  induction h with
  | refl => exact hs
  | tail _ hm ih => exact hstep _ _ hm ih

/-! ### What single operations leave unchanged -/

/-- Setting a flag changes the flag unit and the lanes it releases (R99). -/
theorem State.setFlag_frame (s : State) (f : Fin 32) :
    s.setFlag f = { s with flags := s.flags.set f, lanes := (s.setFlag f).lanes } := by
  unfold State.setFlag
  split
  · rename_i h; rw [FlagUnit.set, if_pos h]
  · rfl

theorem State.setFlag_flags (s : State) (f : Fin 32) : (s.setFlag f).flags = s.flags.set f := by
  rw [State.setFlag_frame]

end Sys2Proof.Machine
end

section
/-! The invariants of the whole part, kept move by move (R27, R28, R98, R110, R126, R149). -/

namespace Sys2Proof.Machine

open Relation

/-! ### One take of the event queue and one word access -/

/-- A take of the event queue leaves a port's open mark and posted buffers, and no more completions (R153). -/
theorem State.take_port {s t : State} (h : s.take = some t) (q : Fin 16) :
    t.recv.ports[q].isOpen = s.recv.ports[q].isOpen ∧ t.recv.ports[q].posted = s.recv.ports[q].posted ∧
      t.recv.ports[q].completions.length ≤ s.recv.ports[q].completions.length := by
  obtain ⟨pos, e, u, -, -, hr, rfl⟩ := State.take_cases h
  rw [State.enqueue_recv]
  rcases State.report_ports hr with ⟨p, c, rest, -, hc, hp⟩ | hp <;> rw [hp]
  · by_cases hq : p = q
    · subst hq
      have hlen := congrArg List.length hc
      simp only [List.length_cons, Fin.getElem_fin] at hlen
      simp [hlen]
    · have hne : p.val ≠ q.val := fun h => hq (Fin.ext h)
      simp [hne]
  · exact ⟨rfl, rfl, le_rfl⟩

/-- A take of the event queue keeps what the host defines of a window (R153). -/
theorem State.take_window {s t : State} (h : s.take = some t) (w : Fin 8) :
    t.windows[w].definition = s.windows[w].definition := by
  obtain ⟨pos, e, u, -, -, hr, rfl⟩ := State.take_cases h
  rw [State.enqueue_windows]
  rcases State.report_windows hr with ⟨v, -, hv⟩ | hv
  · rw [hv]
    simp only [Fin.getElem_fin, Vector.getElem_set]
    split
    · rename_i hvw
      obtain rfl : v = w := Fin.ext hvw
      rfl
    · rfl
  · rw [hv]

/-- A take of the event queue adds one entry to a queue that is not full (R152). -/
theorem State.take_queue {s t : State} (h : s.take = some t) :
    s.queue.entries.length < 64 ∧ t.queue.entries.length = s.queue.entries.length + 1 := by
  obtain ⟨pos, e, u, hl, -, hr, rfl⟩ := State.take_cases h
  refine ⟨hl, ?_⟩
  have hq : u.queue = s.queue := by rw [State.report_frame hr]
  simp [State.enqueue, hq]

/-- A take goes on with its next word, or its end follows the last (R161). -/
theorem State.takeGoesOn_cases (s : State) (m : BufferMemory) (a : Nat) (work : LineWork) :
    ({ s with mem := m } : State).takeGoesOn a work =
        { s with mem := { m with take := some { address := a, work := work, claimed := false } } } ∨
      ({ s with mem := m } : State).takeGoesOn a work =
        ({ s with mem := { m with take := none } } : State).takeEnds work := by
  unfold State.takeGoesOn
  split
  · exact .inr rfl
  · exact .inl rfl

/-- Everything one word access of a take can do (R161): with no take nothing; otherwise the take goes on with work that
ends as before, or its end follows. -/
theorem State.lineAccess_cases (s : State) :
    s.mem.take = none ∧ s.lineAccess = s ∨
      ∃ k work, ∃ m : BufferMemory, s.mem.take = some k ∧
        (∀ r : ReceiveUnit, r.workCounts k.work → r.workCounts work) ∧
        ((∃ a, s.lineAccess =
            { s with mem := { m with take := some { address := a, work := work, claimed := false } } }) ∨
          s.lineAccess = ({ s with mem := { m with take := none } } : State).takeEnds work) := by
  have goes (m : BufferMemory) (a : Nat) (work : LineWork) :
      (∃ b, ({ s with mem := m } : State).takeGoesOn a work =
          { s with mem := { m with take := some { address := b, work := work, claimed := false } } }) ∨
        ({ s with mem := m } : State).takeGoesOn a work =
          ({ s with mem := { m with take := none } } : State).takeEnds work :=
    (s.takeGoesOn_cases m a work).imp (fun h => ⟨a, h⟩) id
  unfold State.lineAccess
  split
  · exact .inl ⟨‹_›, rfl⟩
  rename_i k hk
  refine .inr ?_
  split <;> rename_i hw
  · rename_i w rest done
    refine ⟨k, .store rest done, _, hk, fun r hr _ i c opens he => ?_,
      goes { s.mem with cells := writeCell k.address w s.mem.cells } _ _⟩
    cases he
    exact hr _ i c opens hw
  · rename_i n got
    refine ⟨k, .fetch n (got ++ [s.word k.address]), _, hk, fun r hr _ i c opens he => ?_, goes s.mem _ _⟩
    cases he
  · exact ⟨k, _, _, hk, fun r hr => hw ▸ hr, goes s.mem _ _⟩
  · exact ⟨k, _, _, hk, fun r hr => hw ▸ hr, goes s.mem _ _⟩

/-- A word access of a take changes buffer memory, the receive unit, the windows and the reply (R161). -/
theorem State.lineAccess_frame (s : State) :
    s.lineAccess = { s with
      mem := s.lineAccess.mem
      recv := s.lineAccess.recv
      windows := s.lineAccess.windows
      line := { s.line with reply := s.lineAccess.line.reply } } := by
  rcases s.lineAccess_cases with ⟨-, h⟩ | ⟨k, work, m, -, -, ⟨a, h⟩ | h⟩
  · rw [h]
  · rw [h]
  · rw [h]; rfl

/-- The end of a take keeps every port's open mark (R119, R121). -/
theorem LineWork.recvDone_isOpen (k : LineWork) (r : ReceiveUnit) (q : Fin 16) :
    (k.recvDone r).ports[q].isOpen = r.ports[q].isOpen := by
  match k with
  | .store _ (.segment i c opens) => exact r.segmentStored_isOpen i c opens q
  | .store _ (.window _ _) => rfl
  | .fetch _ _ => rfl

/-- The end of a take keeps what the host defines of a window (R134). -/
theorem LineWork.windowsDone_definition (k : LineWork) (ws : Vector Window 8) (w : Fin 8) :
    (k.windowsDone ws)[w].definition = ws[w].definition := by
  rw [LineWork.windowsDone_get]; rfl

theorem State.lineAccess_isOpen (s : State) (q : Fin 16) :
    s.lineAccess.recv.ports[q].isOpen = s.recv.ports[q].isOpen := by
  rcases s.lineAccess_cases with ⟨-, h⟩ | ⟨k, work, m, -, -, ⟨a, h⟩ | h⟩ <;> rw [h]
  exact work.recvDone_isOpen s.recv q

theorem State.lineAccess_window (s : State) (w : Fin 8) :
    s.lineAccess.windows[w].definition = s.windows[w].definition := by
  rcases s.lineAccess_cases with ⟨-, h⟩ | ⟨k, work, m, -, -, ⟨a, h⟩ | h⟩ <;> rw [h]
  exact work.windowsDone_definition s.windows w

/-! ### Buffer memory and the event queue -/

/-- Every move keeps buffer memory canonical (log 14). -/
theorem Move.memoryCanonical {c : Instr} {s t : State} (h : Move c s t) (hs : s.memoryCanonical) :
    t.memoryCanonical := by
  unfold State.memoryCanonical at *
  cases h with
  | reports h => rwa [(State.take_frame h).2.2.2.2.1]
  | setsFlag f => rwa [State.setFlag_frame]
  | memory m hw => exact hw hs
  | begins k ho hi =>
    obtain ⟨hrise, hcells, -⟩ := (BufferMemory.wf_iff s.mem).mp hs
    exact (BufferMemory.wf_iff _).mpr ⟨hrise, hcells, fun j hj => by cases hj; exact hi⟩
  | accesses => exact State.lineAccess_wf hs
  | _ => exact hs

/-- Every move keeps the bound of the event queue (R149). -/
theorem Move.queueBounded {c : Instr} {s t : State} (h : Move c s t) (hs : s.queueBounded) : t.queueBounded := by
  unfold State.queueBounded at *
  cases h with
  | reports h =>
    obtain ⟨hlt, heq⟩ := State.take_queue h
    rw [heq]
    exact hlt
  | setsFlag f => rwa [State.setFlag_frame]
  | accesses => rwa [State.lineAccess_frame]
  | _ => exact hs

/-! ### Off the line -/

@[simp] theorem ReceiveUnit.offline_contexts (r : ReceiveUnit) : r.offline.contexts = r.faulted.contexts := by
  rw [ReceiveUnit.offline, ReceiveUnit.clearAllStreams]

@[simp] theorem ReceiveUnit.offline_ports (r : ReceiveUnit) : r.offline.ports = r.faulted.ports := by
  rw [ReceiveUnit.offline, ReceiveUnit.clearAllStreams]

theorem ReceiveUnit.faulted_bufferCount (r : ReceiveUnit) (q : Fin 16) : r.faulted.bufferCount q = r.bufferCount q :=
  r.faulted_spec.2.2 q

theorem ReceiveUnit.offline_bufferCount (r : ReceiveUnit) (q : Fin 16) : r.offline.bufferCount q = r.bufferCount q := by
  have hsame : r.offline.bufferCount q = r.faulted.bufferCount q := by
    simp only [ReceiveUnit.bufferCount, ReceiveUnit.openContexts, ReceiveUnit.offline_contexts,
      ReceiveUnit.offline_ports]
  rw [hsame, ReceiveUnit.faulted_bufferCount]

/-- After entry to OFFLINE or FAULTED the part is quiet, once no take is in progress (R27, R28, R126). -/
theorem State.quiet_of_leaveLine {s t : State} {p : Participation} {r : Reason} (ht : s.mem.take = none)
    (hctl : t.ctl = (s.leaveLine p r).ctl) (hsched : t.sched = (s.leaveLine p r).sched)
    (hline : t.line = (s.leaveLine p r).line) (hmem : t.mem = s.mem)
    (hrecv : t.recv.contexts = s.recv.faulted.contexts) : t.quietOffLine := by
  intro _
  rw [hctl, hsched, hline, hmem]
  exact ⟨rfl, rfl, rfl, rfl, rfl, rfl, rfl, ht, fun i => by rw [hrecv]; exact s.recv.faulted_spec.1 i⟩

/-- Every move keeps the part quiet off the line (R27, R28, R126). -/
theorem Move.quietOffLine {c : Instr} {s t : State} (h : Move c s t) (hs : s.quietOffLine) : t.quietOffLine := by
  have onLine (ha : s.awake) : s.onLine ≠ false := by simp [ha hs]
  cases h with
  | reports h =>
    obtain ⟨-, hline, hsched, -, hmem, -, -, hcontexts, -, -, -, hctl⟩ := State.take_frame h
    intro ho
    rw [State.onLine, hctl] at ho
    rw [hline, hsched, hmem, hctl, hcontexts]
    exact hs ho
  | line x hx =>
    intro ho
    obtain ⟨h1, h2, h3, h4, h5, h6, h7, h8, h9⟩ := hs ho
    exact ⟨h1, h2, h3, h4, h5, h6, (hx.resolve_left fun ha => onLine ha ho) h7, h8, h9⟩
  | silence a ha =>
    intro ho
    obtain ⟨h1, h2, h3, hrest⟩ := hs ho
    exact ⟨h1, h2, ha h3, hrest⟩
  | learns x ha hx =>
    intro ho
    rw [State.onLine, hx.participation] at ho
    exact absurd ho (onLine ha)
  | joins => intro ho; cases ho
  | departs => intro ho; cases ho
  | goesOffline r ht =>
    exact State.quiet_of_leaveLine (s := s) (p := .offline) (r := r) ht rfl rfl rfl rfl s.recv.offline_contexts
  | faults r ht => exact State.quiet_of_leaveLine (s := s) (p := .faulted) (r := r) ht rfl rfl rfl rfl rfl
  | sched x hx =>
    intro ho
    obtain ⟨h1, h2, h3, h4, h5, h6, hrest⟩ := hs ho
    obtain ⟨ha, hb⟩ := hx.resolve_left fun ha => onLine ha ho
    exact ⟨h1, h2, h3, h4, ha h5, hb h6, hrest⟩
  | setsFlag f => rw [State.setFlag_frame]; exact hs
  | receives x ht hb hi hn =>
    intro ho
    obtain ⟨h1, h2, h3, h4, h5, h6, h7, h8, h9⟩ := hs ho
    exact ⟨h1, h2, h3, h4, h5, h6, h7, h8, fun i => hn i (h9 i)⟩
  | memory m hw ht =>
    intro ho
    obtain ⟨h1, h2, h3, h4, h5, h6, h7, h8, h9⟩ := hs ho
    exact ⟨h1, h2, h3, h4, h5, h6, h7, ht.trans h8, h9⟩
  | begins k hon =>
    intro ho
    exact absurd hon (by rw [show s.onLine = false from ho]; simp)
  | accesses =>
    intro ho
    have hoff : s.onLine = false := by rw [State.lineAccess_frame] at ho; exact ho
    have htake : s.mem.take = none := (hs hoff).2.2.2.2.2.2.2.1
    have hidle : s.lineAccess = s := by simp only [State.lineAccess, htake]
    rw [hidle]
    exact hs hoff
  | _ => exact hs

/-! ### Flags -/

/-- Setting a clear flag at the flag unit (R99). -/
theorem FlagUnit.set_of_clear {u : FlagUnit} {f : Fin 32} (h : u.isSet f = false) :
    u.set f = { u with
      flags := if releasesConsumer u.lists[f] then u.flags else u.flags ||| member f
      lists := u.lists.set f.val (remainingEntries u.lists[f]) f.isLt } :=
  if_neg (Bool.eq_false_iff.mp h)

/-- Setting a flag keeps the two masks (R99). -/
theorem FlagUnit.set_masks (u : FlagUnit) (f : Fin 32) :
    (u.set f).accept = u.accept ∧ (u.set f).notify = u.notify := by
  rw [FlagUnit.set]
  split <;> exact ⟨rfl, rfl⟩

theorem member_getLsbD (f g : Fin 32) : (member f).getLsbD g.val = decide (f = g) := by
  have hg := g.isLt
  simp [member, hg, Fin.ext_iff, eq_comm]

/-- The flags after one is set (R99): a clear one with no consuming waiter is set as well. -/
theorem FlagUnit.set_isSet (u : FlagUnit) (f g : Fin 32) :
    (u.set f).isSet g = (u.isSet g || (decide (f = g) && !releasesConsumer u.lists[f])) := by
  cases hf : u.isSet f with
  | true =>
    rw [FlagUnit.set, if_pos hf]
    by_cases hg : f = g
    · subst hg; simp [hf]
    · simp [hg]
  | false =>
    rw [FlagUnit.set_of_clear hf, FlagUnit.isSet, FlagUnit.isSet]
    cases releasesConsumer u.lists[f] with
    | true => simp
    | false => rw [if_neg Bool.false_ne_true, BitVec.getLsbD_or, member_getLsbD, Bool.not_false, Bool.and_true]

/-- A list without a consuming entry is released whole (R99). -/
theorem remainingEntries_eq_nil {l : List WaitEntry} (h : releasesConsumer l = false) : remainingEntries l = [] := by
  simp only [releasesConsumer, List.any_eq_false] at h
  have hf : (l.filter fun e => e.consume) = [] := List.filter_eq_nil_iff.mpr h
  rw [remainingEntries, hf]; rfl

/-- Setting a flag leaves no waiter on the list of a set flag (R98, R99). -/
theorem FlagUnit.set_unwaited {u : FlagUnit} (h : ∀ g : Fin 32, u.isSet g = true → u.lists[g] = []) (f g : Fin 32)
    (hg : (u.set f).isSet g = true) : (u.set f).lists[g] = [] := by
  cases hf : u.isSet f with
  | true =>
    rw [FlagUnit.set, if_pos hf] at *
    exact h g hg
  | false =>
    rw [FlagUnit.set_isSet] at hg
    rw [FlagUnit.set_of_clear hf]
    simp only [Fin.getElem_fin, Vector.getElem_set]
    split
    · rename_i hfg
      obtain rfl : f = g := Fin.ext hfg
      have hc : releasesConsumer u.lists[f] = false := by simpa [hf] using hg
      exact remainingEntries_eq_nil hc
    · rename_i hfg
      have hne : f ≠ g := fun he => hfg (congrArg Fin.val he)
      exact h g (by simpa [hne] using hg)

/-- Every move leaves no waiter on the list of a set flag (R98). -/
theorem Move.setFlagsUnwaited {c : Instr} {s t : State} (h : Move c s t) (hs : s.setFlagsUnwaited) :
    t.setFlagsUnwaited := by
  cases h with
  | reports h =>
    obtain ⟨-, -, -, -, -, -, -, -, -, -, hflags, -⟩ := State.take_frame h
    rw [State.setFlagsUnwaited, hflags]
    exact hs
  | setsFlag f =>
    rw [State.setFlagsUnwaited, State.setFlag_flags]
    exact FlagUnit.set_unwaited hs f
  | clearsFlag f =>
    intro g hg
    refine hs g ?_
    simp only [State.clearFlag, FlagUnit.clear, FlagUnit.isSet, BitVec.getLsbD_and, Bool.and_eq_true] at hg
    exact hg.1
  | flagUnit u hf hl =>
    intro g hg
    have hset : s.flags.isSet g = true := by rw [FlagUnit.isSet, ← hf]; exact hg
    exact hl g hset (hs g hset)
  | accesses => rw [State.setFlagsUnwaited, State.lineAccess_frame]; exact hs
  | _ => exact hs

/-! ### Buffer counts -/

/-- Abandonments and orders keep the counts; the store of a segment takes no more buffers than it gives back
(R110, R119, R121). -/
theorem ReceiveUnit.segmentStored_bufferCount {r : ReceiveUnit} {i : Fin 12} {c : Context} {opens : Bool}
    (h : r.storeCounts i c opens) (q : Fin 16) : (r.segmentStored i c opens).bufferCount q ≤ r.bufferCount q := by
  have hhead : (if opens then r.takeHead c.port else r).bufferCount q + (opensOn q (some c)).toNat ≤
      r.bufferCount q + (opensOn q r.contexts[i]).toNat := by
    cases opens with
    | false =>
      obtain ⟨d, hd, hport⟩ := h
      simp [hd, opensOn, hport]
    | true =>
      obtain ⟨hfree, hposted⟩ := h
      have hlen : 0 < r.ports[c.port].posted.length := List.length_pos_iff.mpr hposted
      simp only [if_true, ReceiveUnit.takeHead, ReceiveUnit.bufferCount_updatePort, hfree, List.length_tail]
      by_cases hq : q = c.port
      · subst hq
        simp only [opensOn, Option.any_some, Option.any_none, beq_self_eq_true, if_true, Bool.toNat_true,
          Bool.toNat_false, ReceiveUnit.bufferCount]
        omega
      · simp [opensOn, hq, Ne.symm hq]
  have hcontexts : (if opens then r.takeHead c.port else r).contexts = r.contexts := by cases opens <;> rfl
  rw [ReceiveUnit.segmentStored]
  generalize (if opens then r.takeHead c.port else r) = u at hhead hcontexts
  rw [← hcontexts] at hhead
  unfold ReceiveUnit.afterStore
  split
  · have hset := u.openContexts_setContext i none q
    have hadded : (((u.complete c.port (c.completion .complete c.length)).setStream c.source c.lane
        { epoch := c.epoch, lastCompleted := c.message }).setContext i none).bufferCount q + u.openContexts q =
          u.bufferCount q + (opensOn q (some c)).toNat + (u.setContext i none).openContexts q := by
      have hopen : (((u.complete c.port (c.completion .complete c.length)).setStream c.source c.lane
          { epoch := c.epoch, lastCompleted := c.message }).setContext i none).openContexts q =
            (u.setContext i none).openContexts q := rfl
      simp only [ReceiveUnit.bufferCount, hopen, ReceiveUnit.setContext_ports, ReceiveUnit.setStream_ports,
        ReceiveUnit.ports_complete_get]
      by_cases hq : q = c.port
      · subst hq
        simp only [opensOn, Option.any_some, beq_self_eq_true, if_true, Bool.toNat_true, List.length_append,
          List.length_singleton]
        omega
      · simp only [opensOn, Option.any_some, beq_eq_false_iff_ne.mpr (Ne.symm hq), hq, if_false, Bool.toNat_false]
        omega
    have hnone : (opensOn q none).toNat = 0 := rfl
    omega
  · have hset := u.openContexts_setContext i (some c) q
    simp only [ReceiveUnit.bufferCount, ReceiveUnit.setContext_ports] at *
    omega

/-- No port counts more than its share of `n`, and a segment store in progress takes no more than it gives back. -/
def State.countsWithin (n : Fin 16 → Nat) (s : State) : Prop :=
  (∀ k, s.mem.take = some k → s.recv.workCounts k.work) ∧ ∀ q : Fin 16, s.recv.bufferCount q ≤ n q

/-- A segment store counts the same at a receive unit with the same contexts and posted buffers. -/
theorem ReceiveUnit.workCounts_congr {r u : ReceiveUnit} {work : LineWork} (hc : u.contexts = r.contexts)
    (hp : ∀ q : Fin 16, u.ports[q].posted = r.ports[q].posted) (h : r.workCounts work) : u.workCounts work := by
  intro rest i c opens hw
  have hstore := h rest i c opens hw
  cases opens with
  | true => exact ⟨by rw [hc]; exact hstore.1, by rw [hp]; exact hstore.2⟩
  | false =>
    obtain ⟨d, hd, hport⟩ := hstore
    exact ⟨d, by rw [hc]; exact hd, hport⟩

/-- The end of a take leaves no port with more buffers (R110). -/
theorem ReceiveUnit.recvDone_bufferCount {r : ReceiveUnit} {work : LineWork} (h : r.workCounts work) (q : Fin 16) :
    (work.recvDone r).bufferCount q ≤ r.bufferCount q := by
  match work with
  | .store rest (.segment i c opens) => exact ReceiveUnit.segmentStored_bufferCount (h rest i c opens rfl) q
  | .store _ (.window _ _) => exact le_rfl
  | .fetch _ _ => exact le_rfl

/-- Every move but that of a posted buffer keeps the counts within their bound (R110). -/
theorem Move.countsWithin {c : Instr} {s t : State} {n : Fin 16 → Nat} (h : Move c s t) (hc : c ≠ .postReceive)
    (hs : s.countsWithin n) : t.countsWithin n := by
  obtain ⟨hwork, hcount⟩ := hs
  cases h with
  | reports h =>
    obtain ⟨-, -, -, -, hmem, -, -, hcontexts, -⟩ := State.take_frame h
    have hport := fun q => State.take_port h q
    refine ⟨fun k hk => ?_, fun q => ?_⟩
    · rw [hmem] at hk
      exact ReceiveUnit.workCounts_congr hcontexts (fun q => (hport q).2.1) (hwork k hk)
    · obtain ⟨-, hposted, hlen⟩ := hport q
      have hq := hcount q
      simp only [ReceiveUnit.bufferCount, ReceiveUnit.openContexts, hcontexts, hposted] at *
      omega
  | goesOffline r ht =>
    refine ⟨fun k hk => ?_, fun q => ?_⟩
    · rw [show s.mem.take = some k from hk] at ht; cases ht
    · dsimp only
      rw [ReceiveUnit.offline_bufferCount]
      exact hcount q
  | faults r ht =>
    refine ⟨fun k hk => ?_, fun q => ?_⟩
    · rw [show s.mem.take = some k from hk] at ht; cases ht
    · dsimp only
      rw [ReceiveUnit.faulted_bufferCount]
      exact hcount q
  | setsFlag f => rw [State.setFlag_frame]; exact ⟨hwork, hcount⟩
  | receives x ht hb =>
    refine ⟨fun k hk => ?_, fun q => (hb q).trans (hcount q)⟩
    rw [show s.mem.take = some k from hk] at ht; cases ht
  | posts p b hp => exact absurd hp hc
  | memory m hw ht => exact ⟨fun k hk => hwork k (ht ▸ hk), hcount⟩
  | begins k ho hi hk =>
    refine ⟨fun j hj => ?_, hcount⟩
    cases hj
    exact hk
  | accesses =>
    rcases s.lineAccess_cases with ⟨-, h⟩ | ⟨k, work, m, hk, hsame, ⟨a, h⟩ | h⟩ <;> rw [h]
    · exact ⟨hwork, hcount⟩
    · refine ⟨fun j hj => ?_, hcount⟩
      cases hj
      exact hsame _ (hwork k hk)
    · refine ⟨fun j hj => (by cases hj), fun q => ?_⟩
      exact (ReceiveUnit.recvDone_bufferCount (hsame _ (hwork k hk)) q).trans (hcount q)
  | _ => exact ⟨hwork, hcount⟩

/-! ### What no move changes -/

/-- What the commands leave of the state around the line, the lanes and the unit's tables: the event time, the host port,
the straps, and each of the other things but for the commands that are named for it (R20, R24, R105, R112, R131). -/
structure Kept (c : Instr) (s t : State) : Prop where
  pending : t.pending = s.pending
  resetHeld : t.resetHeld = s.resetHeld
  time : t.time = s.time
  host : t.host = s.host
  number : t.ctl.number = s.ctl.number
  count : t.ctl.count = s.ctl.count
  rate : t.ctl.rate = s.ctl.rate
  epoch : c ≠ .join → t.ctl.epoch = s.ctl.epoch
  masks : c ≠ .setSignalMasks → t.flags.accept = s.flags.accept ∧ t.flags.notify = s.flags.notify
  flags : reachesFlags c = false → t.flags.flags = s.flags.flags
  windows : c ≠ .loadWindow → c ≠ .clearWindow → ∀ w : Fin 8, t.windows[w].definition = s.windows[w].definition
  isOpen : c ≠ .openPort → c ≠ .closePort → ∀ q : Fin 16, t.recv.ports[q].isOpen = s.recv.ports[q].isOpen

theorem Kept.refl (c : Instr) (s : State) : Kept c s s :=
  ⟨rfl, rfl, rfl, rfl, rfl, rfl, rfl, fun _ => rfl, fun _ => ⟨rfl, rfl⟩, fun _ => rfl, fun _ _ _ => rfl,
    fun _ _ _ => rfl⟩

theorem Kept.trans {c : Instr} {s t u : State} (h : Kept c s t) (k : Kept c t u) : Kept c s u where
  pending := k.pending.trans h.pending
  resetHeld := k.resetHeld.trans h.resetHeld
  time := k.time.trans h.time
  host := k.host.trans h.host
  number := k.number.trans h.number
  count := k.count.trans h.count
  rate := k.rate.trans h.rate
  epoch hc := (k.epoch hc).trans (h.epoch hc)
  masks hc := ⟨(k.masks hc).1.trans (h.masks hc).1, (k.masks hc).2.trans (h.masks hc).2⟩
  flags hc := (k.flags hc).trans (h.flags hc)
  windows hl hc w := (k.windows hl hc w).trans (h.windows hl hc w)
  isOpen ho hc q := (k.isOpen ho hc q).trans (h.isOpen ho hc q)

/-- Every move keeps what no move changes. -/
theorem Move.kept {c : Instr} {s t : State} (h : Move c s t) : Kept c s t := by
  cases h with
  | reports h =>
    obtain ⟨hheld, -, -, hhost, -, htime, hpending, -, -, -, hflags, hctl⟩ := State.take_frame h
    exact ⟨hpending, hheld, htime, hhost, by rw [hctl], by rw [hctl], by rw [hctl], fun _ => by rw [hctl],
      fun _ => by rw [hflags]; exact ⟨rfl, rfl⟩, fun _ => by rw [hflags], fun _ _ => State.take_window h,
      fun _ _ q => (State.take_port h q).1⟩
  | learns x ha hx =>
    exact { Kept.refl c s with number := hx.number, count := hx.count, rate := hx.rate, epoch := fun _ => hx.epoch }
  | joins hc => exact { Kept.refl c s with epoch := fun h => absurd hc h }
  | goesOffline r =>
    refine { Kept.refl c s with isOpen := fun _ _ q => ?_ }
    show s.recv.offline.ports[q].isOpen = _
    rw [ReceiveUnit.offline_ports]
    exact ((s.recv.abandonAll_spec .offline fun _ => true).2.2.2 q).1
  | faults r =>
    exact { Kept.refl c s with isOpen := fun _ _ q => ((s.recv.abandonAll_spec .offline fun _ => true).2.2.2 q).1 }
  | setsFlag f hc =>
    rw [State.setFlag_frame]
    exact { Kept.refl c s with
      masks := fun _ => s.flags.set_masks f
      flags := fun h => by rw [hc] at h; cases h }
  | clearsFlag f hc => exact { Kept.refl c s with flags := fun h => by rw [hc] at h; cases h }
  | flagUnit u hf hl hm =>
    exact { Kept.refl c s with masks := fun h => hm.resolve_right h, flags := fun _ => hf }
  | receives x ht hb ho =>
    exact { Kept.refl c s with isOpen := fun h1 h2 => ho.resolve_right fun h => h.elim h1 h2 }
  | posts p b =>
    refine { Kept.refl c s with isOpen := fun _ _ q => ?_ }
    show (s.recv.updatePort p _).ports[q].isOpen = _
    rw [ReceiveUnit.ports_updatePort_get]
    split
    · rename_i hq; rw [hq]
    · rfl
  | window w f hw =>
    refine { Kept.refl c s with windows := fun hl hc v => ?_ }
    rw [State.windows_updateWindow_get]
    split
    · rename_i hv; rw [hv]; exact hw.resolve_right fun h => h.elim hl hc
    · rfl
  | accesses =>
    have hframe := s.lineAccess_frame
    exact ⟨by rw [hframe], by rw [hframe], by rw [hframe], by rw [hframe], by rw [hframe], by rw [hframe],
      by rw [hframe], fun _ => by rw [hframe], fun _ => by rw [hframe]; exact ⟨rfl, rfl⟩, fun _ => by rw [hframe],
      fun _ _ => s.lineAccess_window, fun _ _ => s.lineAccess_isOpen⟩
  | _ => exact { Kept.refl c s with }

theorem Moves.kept {c : Instr} {s t : State} (h : Moves c s t) : Kept c s t :=
  h.keep (Kept.refl c s) fun _ _ hm hk => hk.trans hm.kept

end Sys2Proof.Machine
end

section
/-! The operations that the commands share, as chains of moves: takes, the station controller, the receive unit, the
window unit and deliveries (R18, R25 to R39, R52, R110 to R135, R152). -/

namespace Sys2Proof.Machine

open Relation

variable {c : Instr} {s t : State}

/-! ### Takes -/

theorem State.fill_moves (s : State) : Moves c s s.fill :=
  State.fill_induction (P := Moves c s) s .refl fun _ _ hu hv => hu.tail (.reports hv)

theorem Moves.fill (h : Moves c s t) : Moves c s t.fill := h.trans t.fill_moves

theorem State.lineAccesses_moves (n : Nat) (s : State) : Moves c s (State.lineAccesses n s) := by
  induction n generalizing s with
  | zero => exact .refl
  | succ n ih => exact .head (.accesses s) (ih s.lineAccess)

theorem State.finishTake_moves (s : State) : Moves c s s.finishTake := by
  cases hk : s.mem.take with
  | none => rw [State.finishTake_none hk]
  | some k =>
    rw [← State.lineAccesses_eq (k.work.remaining + 1) s k hk (by omega) (by omega)]
    exact State.lineAccesses_moves _ s

theorem State.settleTake_moves (s : State) : Moves c s s.settleTake :=
  State.settleTake_induction (P := Moves c s) s s.finishTake_moves fun _ ht => ht.fill

theorem State.servesTake_moves (s : State) (pause : Option Nat) : Moves c s (s.servesTake pause) := by
  cases pause with
  | none => exact s.finishTake_moves
  | some k => exact State.lineAccesses_moves k s

theorem State.settleTake_take (s : State) : s.settleTake.mem.take = none := by
  rw [State.settleTake_mem, State.finishTake_take]

@[simp] theorem State.settleTake_onLine (s : State) : s.settleTake.onLine = s.onLine := by
  rw [State.onLine, State.settleTake_participation, State.onLine]

/-! ### Participation and sync -/

theorem State.awake_of_onLine (h : s.onLine = true) : s.awake := fun _ => h

/-- A station whose silence or beacon timer runs is on the line (R27, R28). -/
theorem State.awake_of_timer (h : s.ctl.silence ≠ none ∨ s.ctl.beacon ≠ none) : s.awake := by
  intro hq
  by_contra ho
  obtain ⟨-, -, hsilence, hbeacon, -⟩ := hq (by simpa using ho)
  exact h.elim (absurd hsilence) (absurd hbeacon)

theorem State.enterOffline_moves {r : Reason} (h : offlineReason c s.ctl.participation r) :
    Moves c s (s.enterOffline r) :=
  s.settleTake_moves.tail (.goesOffline _ r s.settleTake_take (by rwa [State.settleTake_participation]))

theorem State.enterFaulted_moves {r : Reason} (ho : s.onLine = true) (h : faultReason c r) :
    Moves c s (s.enterFaulted r) :=
  s.settleTake_moves.tail (.faults _ r s.settleTake_take (by rwa [State.settleTake_onLine]) h)

theorem State.drainTest_moves (h : c = .exchangeEnd ∨ c = .laneWordAccess ∨ c = .drainComplete ∨ c = .leave) :
    Moves c s s.drainTest := by
  rcases s.drainTest_cases with ⟨ht, -⟩ | ⟨ht, hp, -⟩ <;> rw [ht]
  exact State.enterOffline_moves (.inl ⟨hp, h, rfl⟩)

theorem StationController.gainSync_same (k : StationController) (r : Reason) : (k.gainSync r).SameStation k := by
  rw [StationController.gainSync_eq]
  exact ⟨rfl, rfl, rfl, rfl, rfl⟩

/-- Gaining sync records its reason exactly where sync is gained (R29). -/
theorem StationController.gainSync_reason (k : StationController) (r : Reason) :
    (k.gainSync r).sync = k.sync ∧ (k.gainSync r).reason = k.reason ∨
      (k.gainSync r).sync = .synced ∧ (k.gainSync r).reason = r := by
  rw [StationController.gainSync_eq]
  cases hk : k.sync with
  | synced => exact .inl ⟨rfl, rfl⟩
  | unsynced => exact .inr ⟨rfl, rfl⟩

/-- A change of the station controller that gains sync and beside it changes only counters, timers and last. -/
theorem Move.gains {x : StationController} {r : Reason} (ha : s.awake) (hr : syncReason c .synced r)
    (hs : x.SameStation (s.ctl.gainSync r)) (hsync : x.sync = (s.ctl.gainSync r).sync)
    (hreason : x.reason = (s.ctl.gainSync r).reason) : Move c s { s with ctl := x } := by
  have hsame := s.ctl.gainSync_same r
  refine .learns s x ha ⟨hs.number.trans hsame.number, hs.count.trans hsame.count, hs.rate.trans hsame.rate,
    hs.epoch.trans hsame.epoch, hs.participation.trans hsame.participation⟩ ?_
  rw [hsync, hreason]
  refine (s.ctl.gainSync_reason r).imp id ?_
  rintro ⟨h1, h2⟩
  rwa [h1, h2]

theorem State.observedCollision_moves (hc : c = .lineDisturbance ∨ c = .readBackMismatch) :
    Moves c s s.observedCollision := by
  rw [State.observedCollision_eq]
  cases ho : s.onLine with
  | false => exact .refl
  | true =>
    exact .single (.gains (r := .collision) (State.awake_of_onLine ho) (.inr (.inl ⟨hc, rfl⟩))
      ⟨rfl, rfl, rfl, rfl, rfl⟩ rfl rfl)

theorem State.stuckNotice_moves : Moves .stuckCondition s s.stuckNotice := by
  rw [State.stuckNotice_eq]
  cases ho : s.onLine with
  | false => exact .refl
  | true => exact .single (.learns s _ (State.awake_of_onLine ho) ⟨rfl, rfl, rfl, rfl, rfl⟩ (.inr (.inr ⟨rfl, rfl⟩)))

theorem State.ownCollision_moves (ho : s.onLine = true) : Moves .readBackMismatch s s.ownCollision := by
  have hcounted : Move .readBackMismatch s s.ownCollisionCounted :=
    .learns s _ (State.awake_of_onLine ho) ⟨rfl, rfl, rfl, rfl, rfl⟩ (.inl ⟨rfl, rfl⟩)
  rcases Nat.lt_or_ge (s.ctl.ownCollisions + 1) 3 with h | h
  · rw [State.ownCollision_counts h]
    exact .single hcounted
  · rw [State.ownCollision_faults h]
    exact .head hcounted (State.enterFaulted_moves ho (.inl ⟨rfl, rfl⟩))

theorem State.silenceExpires_moves : Moves .silenceTimerExpiry s s.silenceExpires := by
  unfold State.silenceExpires
  split
  · rename_i n hn
    split
    · exact .single (.gains (r := .silence) (State.awake_of_timer (.inl (by simp [hn]))) (.inr (.inr ⟨rfl, rfl⟩))
        ⟨rfl, rfl, rfl, rfl, rfl⟩ rfl rfl)
    · exact .refl
  · exact .refl

theorem State.beaconExpires_moves : Moves c s s.beaconExpires := by
  unfold State.beaconExpires
  split
  · rename_i n hn
    split
    · have hbeacon : Move c s { s with ctl := { s.ctl with beacon := some Config.beaconInterval } } :=
        .learns s _ (State.awake_of_timer (.inr (by simp [hn]))) ⟨rfl, rfl, rfl, rfl, rfl⟩ (.inl ⟨rfl, rfl⟩)
      refine .tail (.single hbeacon) (.sched _ { s.sched with beaconDue := true } (.inl (State.awake_of_timer (.inr ?_))))
      simp
    · exact .refl
  · exact .refl

/-! ### The receive unit -/

theorem ReceiveUnit.abandon_moves {i : Fin 12} {st : ReceiveStatus} (ht : s.mem.take = none) :
    Moves c s { s with recv := s.recv.abandon i st } := by
  obtain ⟨hcontexts, -, hports, hcount⟩ := s.recv.abandon_spec i st
  refine .single (.receives s _ ht (fun q => (hcount q).le) (.inl fun q => ?_) fun j hj => ?_)
  · rw [hports q]
    split
    · split <;> rfl
    · rfl
  · rw [hcontexts j, hj, ite_self]

theorem ReceiveUnit.abandonAll_moves {st : ReceiveStatus} {p : Context → Bool} (ht : s.mem.take = none) :
    Moves c s { s with recv := s.recv.abandonAll st p } := by
  obtain ⟨hcontexts, -, hcount, hports⟩ := s.recv.abandonAll_spec st p
  exact .single (.receives s _ ht (fun q => (hcount q).le) (.inl fun q => (hports q).1)
    fun j hj => by rw [hcontexts j, hj]; rfl)

theorem State.presenceTakes_moves (h : Header) (ht : s.mem.take = none) : Moves c s (s.presenceTakes h) := by
  have hpresence : Moves c s { s with presence := (s.presenceTakes h).presence } := .single (.presence s _)
  rw [State.presenceTakes_eq]
  rcases s.presenceTakes_recv h with hr | hr <;> rw [hr]
  · exact hpresence
  · obtain ⟨hcontexts, hports, hcount⟩ := s.recv.purgeOrder_spec h.source
    exact hpresence.tail (.receives _ _ ht (fun q => (hcount q).le) (.inl fun q => (hports q).1)
      fun j hj => by rw [hcontexts j, hj]; rfl)

/-- The timer of an open context restarts (R119). -/
theorem ReceiveUnit.restarts_moves {i : Fin 12} {x : Context} (ht : s.mem.take = none)
    (hx : s.recv.contexts[i] = some x) :
    Moves c s { s with recv := s.recv.setContext i (some { x with age := 0 }) } := by
  refine .single (.receives s _ ht (fun q => ?_) (.inl fun q => rfl) fun j hj => ?_)
  · have hset := s.recv.openContexts_setContext i (some { x with age := 0 }) q
    have hsame : opensOn q (some { x with age := 0 }) = opensOn q s.recv.contexts[i] := by rw [hx]; rfl
    rw [hsame] at hset
    simp only [ReceiveUnit.bufferCount, ReceiveUnit.setContext_ports]
    omega
  · rw [ReceiveUnit.contexts_setContext_get]
    split
    · rename_i hij
      rw [hij, hx] at hj
      cases hj
    · exact hj

/-- A block takes a delivery on the line: a chain of moves that leaves the station controller as it is. -/
def TakenBy (c : Instr) (s t : State) : Prop := Moves c s t ∧ t.ctl = s.ctl

theorem State.beginTake_moves {a : Nat} {work : LineWork} (h : s.beginTake a work = .ok t) (ho : s.onLine = true)
    (hk : s.recv.workCounts work) : TakenBy c s t := by
  obtain ⟨hi, rfl⟩ := State.beginTake_ok h
  exact ⟨.single (.begins s _ ho hi hk), rfl⟩

theorem State.newMessage_moves {h : Header} {ws : List Word} {r : State × ReplyCode} (hr : s.newMessage h ws = .ok r)
    (ho : s.onLine = true) : TakenBy c s r.1 := by
  unfold State.newMessage at hr
  simp only at hr
  repeat' split at hr
  · cases hr; exact ⟨.refl, rfl⟩
  · cases hr; exact ⟨.refl, rfl⟩
  · cases hr; exact ⟨.refl, rfl⟩
  · cases hr; exact ⟨.refl, rfl⟩
  · cases hr
  · rename_i b _ hposted _ i hfree _ _ u hu
    cases hr
    refine State.beginTake_moves hu ho fun _ j x opens hw => ?_
    cases hw
    have hentry : s.recv.contexts[i] = none := by simpa using List.find?_some hfree
    have hbuffer : s.recv.ports[h.port].posted ≠ [] := by rw [hposted]; exact List.cons_ne_nil _ _
    exact ⟨hentry, hbuffer⟩

theorem State.dataWithoutContext_moves {h : Header} {ws : List Word} {r : State × ReplyCode}
    (hr : s.dataWithoutContext h ws = .ok r) (ho : s.onLine = true) : TakenBy c s r.1 := by
  unfold State.dataWithoutContext at hr
  repeat' split at hr
  · cases hr; exact ⟨.refl, rfl⟩
  · cases hr; exact ⟨.refl, rfl⟩
  · exact State.newMessage_moves hr ho

theorem State.dataWithContext_moves {i : Fin 12} {x : Context} {h : Header} {ws : List Word} {r : State × ReplyCode}
    (hr : s.dataWithContext i x h ws = .ok r) (ho : s.onLine = true) (ht : s.mem.take = none)
    (hx : s.recv.contexts[i] = some x) : TakenBy c s r.1 := by
  unfold State.dataWithContext at hr
  repeat' split at hr
  · cases hr; exact ⟨ReceiveUnit.restarts_moves ht hx, rfl⟩
  · cases hr
  · rename_i u hu
    cases hr
    refine State.beginTake_moves hu ho fun _ j y opens hw => ?_
    cases hw
    exact ⟨x, hx, rfl⟩
  · cases hr; exact ⟨ReceiveUnit.abandon_moves ht, rfl⟩
  · obtain ⟨hm, hctl⟩ := State.dataWithoutContext_moves (s := { s with recv := s.recv.abandon i .superseded }) hr ho
    exact ⟨(ReceiveUnit.abandon_moves ht).trans hm, hctl⟩
  · cases hr; exact ⟨.refl, rfl⟩

theorem State.dataArrival_moves {h : Header} {ws : List Word} {b : Bool} {r : State × ReplyCode}
    (hr : s.dataArrival h ws b = .ok r) (ho : s.onLine = true) (ht : s.mem.take = none) : TakenBy c s r.1 := by
  unfold State.dataArrival at hr
  repeat' split at hr
  · cases hr; exact ⟨.refl, rfl⟩
  · cases hr; exact ⟨.refl, rfl⟩
  · exact State.dataWithContext_moves hr ho ht ‹_›
  · exact State.dataWithoutContext_moves hr ho
  · exact State.dataWithoutContext_moves hr ho

theorem State.cancelArrival_moves (h : Header) (ht : s.mem.take = none) :
    Moves c s { s with recv := s.recv.cancelArrival h } := by
  unfold ReceiveUnit.cancelArrival
  split
  · exact ReceiveUnit.abandon_moves ht
  · exact .refl

/-! ### The window unit -/

theorem State.windowWrite_moves {h : Header} {ws : List Word} {b : Bool} {r : State × ReplyCode}
    (hr : s.windowWrite h ws b = .ok r) (ho : s.onLine = true) : TakenBy c s r.1 := by
  unfold State.windowWrite at hr
  simp only at hr
  repeat' split at hr
  · cases hr; exact ⟨.refl, rfl⟩
  · cases hr; exact ⟨.refl, rfl⟩
  · cases hr
  · rename_i u hu
    cases hr
    exact State.beginTake_moves hu ho fun _ _ _ _ hw => by cases hw

theorem State.windowRead_moves {h : Header} {r : State × ReplyCode} (hr : s.windowRead h = .ok r)
    (ho : s.onLine = true) : TakenBy c s r.1 := by
  unfold State.windowRead at hr
  simp only at hr
  repeat' split at hr
  · cases hr; exact ⟨.refl, rfl⟩
  · cases hr
  · rename_i u hu
    cases hr
    exact State.beginTake_moves hu ho fun _ _ _ _ hw => by cases hw

/-! ### Deliveries -/

variable {f : FrameEnd}

theorem State.answer_moves (ho : s.onLine = true) (h : Header) (code : ReplyCode) (ws : List Word) :
    Moves c s (s.answer h code ws) := .single (.line s _ (.inl (State.awake_of_onLine ho)))

theorem State.answered_moves {r : Except Fault (State × ReplyCode)} {h : Header} (ho : s.onLine = true)
    (hr : ∀ x, r = .ok x → TakenBy c s x.1) (ht : State.answered r h = .ok t) : Moves c s t := by
  unfold State.answered at ht
  split at ht
  · cases ht
  · rename_i u code
    cases ht
    obtain ⟨hm, hctl⟩ := hr (u, code) rfl
    exact hm.trans (State.answer_moves (by rw [State.onLine, hctl]; exact ho) h code [])

theorem State.takeSignal_moves (g : Fin 32) : TakenBy (.frameDelivery f) s (s.takeSignal g).1 := by
  unfold State.takeSignal
  split
  · have hset : Moves (.frameDelivery f) s (s.setFlag g) := .single (.setsFlag s g rfl)
    have hctl : (s.setFlag g).ctl = s.ctl := by rw [State.setFlag_frame]
    simp only
    split
    · exact ⟨hset.tail (.flagUnit _ _ rfl (fun _ _ h => h) (.inl ⟨rfl, rfl⟩)), hctl⟩
    · exact ⟨hset, hctl⟩
  · exact ⟨.refl, rfl⟩

theorem State.signalArrival_moves (h : Header) (ho : s.onLine = true) :
    Moves (.frameDelivery f) s (s.signalArrival h) := by
  obtain ⟨hm, hctl⟩ := State.takeSignal_moves (f := f) (s := s) h.selector
  unfold State.signalArrival
  simp only
  split
  · exact hm
  · exact hm.trans (State.answer_moves (by rw [State.onLine, hctl]; exact ho) _ _ _)

theorem State.handOn_moves {d : Delivery} (h : s.handOn d = .ok t) (ho : s.onLine = true) (ht : s.mem.take = none) :
    Moves (.frameDelivery f) s t := by
  unfold State.handOn at h
  simp only at h
  split at h
  · exact State.answered_moves ho (fun x hx => State.dataArrival_moves hx ho ht) h
  · exact State.answered_moves ho (fun x hx => State.windowWrite_moves hx ho) h
  · split at h
    · cases h; exact State.answer_moves ho _ _ _
    · cases h
      exact (State.cancelArrival_moves d.header ht).trans
        (State.answer_moves (s := { s with recv := s.recv.cancelArrival d.header }) ho _ _ _)
  · split at h
    · cases h; exact State.answer_moves ho _ _ _
    · exact State.answered_moves ho (fun x hx => State.windowRead_moves hx ho) h
  · repeat' split at h
    · cases h; exact .refl
    · cases h; exact State.answer_moves ho _ _ _
    · cases h; exact State.signalArrival_moves _ ho
  · cases h; exact .single (.sched s _ (.inl (State.awake_of_onLine ho)))
  · cases h; exact .refl
  · cases h; exact .refl
  · cases h; exact .refl

theorem State.judge_moves {d : Delivery} (h : s.judge d = .ok t) (ho : s.onLine = true) (ht : s.mem.take = none) :
    Moves (.frameDelivery f) s t := by
  unfold State.judge at h
  repeat' split at h
  · cases h; exact .refl
  · cases h; exact .refl
  · cases h; exact State.answer_moves ho _ _ _
  · cases h; exact .refl
  · exact State.handOn_moves h ho ht

theorem State.headerFails_moves (k : FrameClass) (ho : s.onLine = true) :
    Moves (.frameDelivery f) s (s.headerFails k) := by
  by_cases hk : k = .contention ∨ s.ctl.sync = .unsynced
  · have hfailed : Move (.frameDelivery f) s s.headerFailed := by
      refine .learns s _ (State.awake_of_onLine ho) ⟨rfl, rfl, rfl, rfl, rfl⟩ ?_
      cases hy : s.ctl.sync with
      | unsynced => exact .inl ⟨rfl, rfl⟩
      | synced => exact .inr (.inl ⟨⟨f, rfl⟩, rfl⟩)
    rw [State.headerFails_counts hk]
    split
    · exact .head hfailed (State.enterFaulted_moves ho (.inr ⟨⟨f, rfl⟩, rfl⟩))
    · exact .single hfailed
  · cases k with
    | contention => exact absurd (.inl rfl) hk
    | reply =>
      cases hy : s.ctl.sync with
      | unsynced => exact absurd (.inr hy) hk
      | synced => rw [State.headerFails_ignored hy]

theorem State.takeHeader_moves (k : FrameClass) (h : Header) (ho : s.onLine = true) :
    Move (.frameDelivery f) s { s with ctl := s.ctl.takeHeader k h } := by
  have hheard : syncReason (.frameDelivery f) .synced .heard := .inl ⟨⟨f, rfl⟩, rfl⟩
  have ha := State.awake_of_onLine ho
  unfold StationController.takeHeader
  split
  · exact .gains ha hheard ⟨rfl, rfl, rfl, rfl, rfl⟩ rfl rfl
  · split
    · exact .gains ha hheard ⟨rfl, rfl, rfl, rfl, rfl⟩ rfl rfl
    · exact .learns s _ ha ⟨rfl, rfl, rfl, rfl, rfl⟩ (.inl ⟨rfl, rfl⟩)

theorem StationController.takeHeader_participation (k : StationController) (x : FrameClass) (h : Header) :
    (k.takeHeader x h).participation = k.participation := by
  unfold StationController.takeHeader
  split
  · exact (k.gainSync_same .heard).participation
  · split
    · exact (k.gainSync_same .heard).participation
    · rfl

theorem State.deliver_moves {d : Delivery} (h : s.deliver d = .ok t) (ht : s.mem.take = none) :
    Moves (.frameDelivery f) s t := by
  unfold State.deliver at h
  simp only at h
  repeat' split at h
  · cases h; exact .refl
  · rename_i ho _
    cases h
    exact State.headerFails_moves _ (by simpa using ho)
  · rename_i hoff _
    have ho : s.onLine = true := by simpa using hoff
    let u : State := { s with ctl := s.ctl.takeHeader d.frameClass d.header }
    have hon : u.onLine = true := by
      rw [State.onLine, StationController.takeHeader_participation]; exact ho
    have hm : Moves (.frameDelivery f) s (u.presenceTakes d.header) :=
      .head (State.takeHeader_moves d.frameClass d.header ho) (State.presenceTakes_moves (s := u) d.header ht)
    refine hm.trans (State.judge_moves h ?_ ?_) <;> rw [State.presenceTakes_eq]
    · exact hon
    · exact ht

/-- An active half-bit restarts the silence timer (R38). -/
theorem Move.activity (s : State) : Move c s { s with ctl := s.ctl.activity } :=
  .silence s _ fun h => by rw [h]; rfl

theorem State.atFrameEnd_moves (s : State) : Moves c s s.atFrameEnd :=
  (s.settleTake_moves.tail (.line _ s.line.frameEnds (.inr fun _ => rfl))).tail (.activity _)

theorem State.frameDelivered_moves (h : s.frameDelivered f = .ok t) : Moves (.frameDelivery f) s t := by
  unfold State.frameDelivered at h
  simp only at h
  repeat' split at h
  · cases h
  · rename_i u hu
    cases h
    have hend : ({ s.settleTake with
        line := s.settleTake.line.frameEnds, ctl := s.settleTake.ctl.activity } : State) = s.atFrameEnd := by
      simp only [State.atFrameEnd, State.settleTake_line, State.finishTake_frameEnds]
    rw [hend] at hu
    have hm : Moves (.frameDelivery f) s u := (State.atFrameEnd_moves s).trans (State.deliver_moves hu s.atFrameEnd_take)
    exact Moves.fill (hm.trans (State.servesTake_moves u f.pause))
  · cases h; exact .refl

end Sys2Proof.Machine
end

section
/-! Every command but a reset as a chain of moves, with the completion of its slot or the host access that it serves
(R158, R159, R166). -/

namespace Sys2Proof.Machine

open Relation

variable {c : Instr} {s t : State} {i : Fin 8}

/-! ### The line -/

theorem Move.updateLane (s : State) (i : Fin 8) (f : Lane → Lane) : Move c s (s.updateLane i f) := .lanes s _

theorem Move.mapLanes (s : State) (f : Fin 8 → Lane → Lane) : Move c s (s.mapLanes f) := .lanes s _

/-- The line changes and an active half-bit is heard; a reply that is not owed is not owed after it. -/
theorem Moves.activity {x : LineInterface} (h : s.line.reply = none → x.reply = none) :
    Moves c s { s with line := x, ctl := s.ctl.activity } :=
  .tail (.single (.line s x (.inr h))) (.activity _)

theorem LineInterface.idleBitTime_reply (x : LineInterface) : x.idleBitTime.reply = x.reply := by
  unfold LineInterface.idleBitTime
  repeat' split
  all_goals rfl

/-- A bit time of released line: the line, and the silence timer (R2, R38). -/
theorem Moves.idleBitTime {x : LineInterface} (h : x.reply = s.line.reply) :
    Moves c s { s with line := x, ctl := s.ctl.idleBitTime s.line } := by
  have hline : Moves c s { s with line := x } := .single (.line s x (.inr fun hn => h.trans hn))
  unfold StationController.idleBitTime
  split
  · exact hline.tail (.silence _ _ fun hn => Option.map_eq_none_iff.mpr hn)
  · exact hline

theorem State.ownCompletion_moves (h : Header) : Moves c s (s.ownCompletion h) := by
  unfold State.ownCompletion
  split
  · rename_i ho
    have hctl : Move c s { s with ctl := { s.ctl with
        last := some s.ctl.number, ownCollisions := 0, beacon := some 0 } } :=
      .learns s _ (State.awake_of_onLine ho) ⟨rfl, rfl, rfl, rfl, rfl⟩ (.inl ⟨rfl, rfl⟩)
    exact .tail (.single hctl) (.sched _ _ (.inl (State.awake_of_onLine ho)))
  · exact .refl

/-- The exchange in the record changes; the marks of the scheduler stay. -/
theorem Move.exchange (s : State) (f : ExchangeRecord → ExchangeRecord) :
    Move c s { s with sched := s.sched.mapExchange f } := .sched s _ (.inr ⟨id, id⟩)

theorem State.ownFrameEnds_moves (f : Transmission) : Moves c s (s.ownFrameEnds f) := by
  have hend : Moves c s { s with line := s.line.ownFrameEnds f.frameClass, ctl := s.ctl.activity } :=
    Moves.activity id
  unfold State.ownFrameEnds
  simp only
  split
  · exact hend
  · exact (hend.tail (.exchange _ ExchangeRecord.completed)).trans (State.ownCompletion_moves _)

theorem State.collide_moves (f : Transmission) : Moves .readBackMismatch s (s.collide f) := by
  have hjam : Moves .readBackMismatch s s.jamBegins := Moves.activity id
  have hdecided : Moves .readBackMismatch s s.jamDecided := hjam.tail (.exchange _ ExchangeRecord.collided)
  cases hk : f.frameClass with
  | reply =>
    rw [State.collide_reply hk]
    exact hjam.trans (State.observedCollision_moves (.inr rfl))
  | contention =>
    cases ho : s.onLine with
    | true =>
      rw [State.collide_contention_onLine hk ho]
      have hown : Moves .readBackMismatch s.jamDecided s.jamDecided.ownCollision := State.ownCollision_moves ho
      exact (hdecided.trans hown).trans (State.observedCollision_moves (.inr rfl))
    | false =>
      rw [State.collide_contention_offLine hk ho]
      exact hdecided.trans (State.observedCollision_moves (.inr rfl))

theorem State.closeExchange_moves : Moves .exchangeEnd s s.closeExchange := by
  have hclosed (m : Option (Fin 8)) :
      Moves .exchangeEnd s { s with sched := { s.sched with exchange := none, reoffer := m } } :=
    .single (.sched s _ (.inr ⟨id, id⟩))
  unfold State.closeExchange
  split
  · exact .refl
  · simp only
    split
    · exact ((hclosed _).tail (.updateLane _ _ _)).trans (State.drainTest_moves (.inl rfl))
    · exact (hclosed _).trans (State.drainTest_moves (.inl rfl))
    · exact (hclosed _).trans (State.drainTest_moves (.inl rfl))

theorem State.beginFrame_moves (o : Owner) : Moves c s (s.beginFrame o) := by
  have hdriven (x : Transmission) : Moves c s { s with line := s.line.begin x, ctl := s.ctl.activity } :=
    Moves.activity fun _ => rfl
  have hchosen (x : Transmission) : Moves c s { s with
      line := s.line.begin x, ctl := s.ctl.activity, sched := s.sched.choice o (s.offeredFrame o) } :=
    (hdriven x).tail (.sched _ _ (.inr (by cases o <;> exact ⟨id, id⟩)))
  cases o with
  | lane i => exact (hchosen _).tail (.updateLane _ _ _)
  | announce | beacon => exact hchosen _

theorem State.turn_moves : Moves c s s.turn := by
  unfold State.turn
  repeat' split
  · exact .refl
  · exact State.beginFrame_moves _
  · exact .refl

theorem State.slotStarts_moves : Moves c s s.slotStarts := by
  have hslot : Moves c s (s.inSlot (s.line.nextPhase s.ctl.count)) := .single (.line s _ (.inr id))
  unfold State.slotStarts
  simp only
  split
  · exact hslot.trans State.turn_moves
  · exact hslot

/-! ### Timers of the receive unit and the presence table -/

theorem State.contextExpires_moves (i : Fin 12) : Moves c s (s.contextExpires i) := by
  unfold State.contextExpires
  simp only
  split
  · exact s.settleTake_moves.trans (ReceiveUnit.abandon_moves s.settleTake_take)
  · exact .refl

theorem State.presenceExpires_moves (p : Fin 32) : Moves c s (s.presenceExpires p) := by
  unfold State.presenceExpires
  split
  · have habsent (x : PresenceTable) : Moves c s { s.settleTake with presence := x, recv := s.settleTake.recv.absentOrder p } :=
      (s.settleTake_moves.tail (.presence _ x)).trans
        (ReceiveUnit.abandonAll_moves (s := { s.settleTake with presence := x }) s.settleTake_take)
    exact habsent _
  · exact .refl

/-! ### Flags and waits -/

theorem State.takeWaitRequest_moves : Moves (.waitRequestTake i) s (s.takeWaitRequest i) := by
  unfold State.takeWaitRequest
  simp only
  split
  · split
    · split
      · exact .tail (.single (.clearsFlag s _ rfl)) (.updateLane _ _ _)
      · exact .single (.updateLane s _ _)
    · rename_i hclear
      have hqueued (e : WaitEntry) : Moves (.waitRequestTake i) s
          { s with flags := s.flags.enqueue s.lanes[i].flag e } := by
        refine .single (.flagUnit s _ rfl (fun f hf hl => ?_) (.inl ⟨rfl, rfl⟩))
        simp only [FlagUnit.enqueue, Fin.getElem_fin, Vector.getElem_set]
        split
        · rename_i h
          exact absurd (Fin.ext h ▸ hf) hclear
        · exact hl
      exact (hqueued _).tail (.updateLane _ _ _)
  · exact .refl

theorem State.takeFlagRequest_moves : Moves (.flagRequestTake i) s (s.takeFlagRequest i) := by
  unfold State.takeFlagRequest
  simp only
  split
  · split
    · exact .tail (.single (.setsFlag s _ rfl)) (.updateLane _ _ _)
    · exact .tail (.single (.clearsFlag s _ rfl)) (.updateLane _ _ _)
  · exact .refl

theorem State.waitTimerExpires_moves : Moves c s (s.waitTimerExpires i) := by
  unfold State.waitTimerExpires
  simp only
  split
  · exact .single (.updateLane s _ _)
  · exact .refl

/-- A lane leaves its wait list (R102, R103). -/
theorem State.leaveList_moves (st : Status) : Moves c s (s.leaveList i st) := by
  have hremoved (g : Fin 32) : Moves c s { s with flags := s.flags.remove g i } := by
    refine .single (.flagUnit s _ rfl (fun f _ hl => ?_) (.inl ⟨rfl, rfl⟩))
    simp only [FlagUnit.remove, Fin.getElem_fin, Vector.getElem_set]
    split
    · rename_i hf
      obtain rfl : g = f := Fin.ext hf
      exact List.filter_eq_nil_iff.mpr fun e he => absurd he (by simp [show s.flags.lists[g.val] = [] from hl])
    · exact hl
  exact (hremoved _).tail (.updateLane _ _ _)

theorem State.takeExpiry_moves : Moves c s (s.takeExpiry i) := by
  unfold State.takeExpiry
  repeat' split
  · exact State.leaveList_moves _
  · exact .single (.updateLane s _ _)
  · exact .refl

theorem State.takeRemoval_moves : Moves c s (s.takeRemoval i) := by
  unfold State.takeRemoval
  repeat' split
  · exact State.leaveList_moves _
  · exact .single (.updateLane s _ _)
  · exact .refl

theorem State.takeAndFill_moves : Moves c s s.takeAndFill := by
  unfold State.takeAndFill
  split
  · rename_i u hu
    exact Moves.fill (.single (.reports hu))
  · exact .refl

/-! ### Word accesses of the lanes -/

theorem State.laneReads_moves {a : Nat} {f : Word → Lane → Lane} (h : s.laneReads i a f = .ok t) : Moves c s t := by
  unfold State.laneReads at h
  split at h <;> cases h
  exact .single (.updateLane s i _)

theorem State.laneStores_moves {a : Nat} {w : Word} {f : Lane → Lane} (h : s.laneStores i a w f = .ok t) :
    Moves c s t := by
  unfold State.laneStores at h
  split at h <;> cases h
  rename_i u hu
  obtain ⟨ha, rfl⟩ := State.writeWord_ok hu
  exact .tail (.single (.memory s _ (fun hw => wf_writeCell hw ha w) rfl)) (.updateLane _ i f)

theorem State.laneAccess_moves (h : s.laneAccess i = .ok t) : Moves .laneWordAccess s t := by
  unfold State.laneAccess at h
  simp only at h
  split at h
  · exact State.laneReads_moves h
  · exact State.laneStores_moves h
  · exact State.laneReads_moves h
  · exact State.laneStores_moves h
  · cases h; exact .single (.updateLane s i _)
  · exact State.laneStores_moves h
  · split at h <;> cases h
    exact (State.laneStores_moves ‹_›).trans (State.drainTest_moves (.inr (.inl rfl)))
  all_goals cases h; exact .refl

theorem State.serveLane_moves (h : s.serveLane = .ok t) : Moves .laneWordAccess s t := by
  unfold State.serveLane at h
  repeat' split at h
  · cases h; exact .refl
  · cases h
  · rename_i i _ _ u hu
    cases h
    have hpointer : Move .laneWordAccess s { s with mem := { s.mem with lanePointer := i } } := .memory s _ id rfl
    exact Moves.fill (ReflTransGen.head hpointer (State.laneAccess_moves hu))

/-! ### Slot commands -/

theorem State.doJoin_moves : Moves .join s s.doJoin.1 := by
  unfold State.doJoin
  repeat' split
  · exact .refl
  · exact .refl
  · rename_i hp _
    have hjoined : Moves .join s { s with ctl := s.ctl.joined } := .single (.joins s rfl (by simpa using hp))
    have hannounced : Moves .join s
        { s with ctl := s.ctl.joined, sched := { s.sched with pendingAnnounce := true } } :=
      hjoined.tail (.sched _ _ (.inl (State.awake_of_onLine rfl)))
    exact hannounced.tail (.lanes _ _)

theorem State.doLeave_moves : Moves .leave s s.doLeave.1 := by
  unfold State.doLeave
  split
  · exact .refl
  · rename_i hp
    have hdeparts (u : State) (hu : u.ctl.participation = .active) :
        Moves .leave u ({ u with ctl := { u.ctl.record .leave with participation := .leaving } } : State).drainTest :=
      .head (.departs u rfl hu) (State.drainTest_moves (.inr (.inr (.inr rfl))))
    simp only
    split
    · exact s.settleTake_moves.trans (hdeparts _ (by rwa [State.settleTake_participation]))
    · exact hdeparts s hp
  · rename_i hp
    exact State.enterOffline_moves (.inr ⟨.inl hp, rfl, rfl⟩)
  · rename_i hp
    exact State.enterOffline_moves (.inr ⟨.inr hp, rfl, rfl⟩)

theorem State.doStartLane_moves : Moves c s s.doStartLane.1 := by
  unfold State.doStartLane
  simp only
  repeat' split
  · exact .refl
  · exact .refl
  · exact .refl
  · exact .single (.lanes s _)

theorem State.doStopLane_moves : Moves c s s.doStopLane.1 := by
  unfold State.doStopLane
  repeat' split
  · exact .refl
  · exact .refl
  · exact .single (.lanes s _)

/-- A change of one port that keeps its buffer count, with no take in progress. -/
theorem Move.port (p : Fin 16) (f : Port → Port) (ht : s.mem.take = none)
    (hf : (f s.recv.ports[p]).posted.length + (f s.recv.ports[p]).completions.length =
      s.recv.ports[p].posted.length + s.recv.ports[p].completions.length) (hc : c = .openPort ∨ c = .closePort) :
    Move c s { s with recv := s.recv.updatePort p f } := by
  refine .receives s _ ht (fun q => ?_) (.inr hc) fun _ h => h
  rw [ReceiveUnit.bufferCount_updatePort]
  split
  · rename_i hq
    rw [hq, ReceiveUnit.bufferCount]
    omega
  · exact le_rfl

theorem State.doOpenPort_moves : Moves .openPort s s.doOpenPort.1 := by
  unfold State.doOpenPort
  split
  · exact .refl
  · exact s.settleTake_moves.tail (.port _ _ s.settleTake_take rfl (.inl rfl))

theorem State.doClosePort_moves : Moves .closePort s s.doClosePort.1 := by
  unfold State.doClosePort
  split
  · exact .refl
  · rename_i p _
    have hport (r : ReceiveUnit) (f : Port → Port)
        (hf : (f r.ports[p]).posted.length + (f r.ports[p]).completions.length =
          r.ports[p].posted.length + r.ports[p].completions.length) :
        Move .closePort { s.settleTake with recv := r } { s.settleTake with recv := r.updatePort p f } :=
      .port (s := { s.settleTake with recv := r }) p f s.settleTake_take hf (.inr rfl)
    have habandoned (r : ReceiveUnit) : Moves .closePort { s.settleTake with recv := r }
        { s.settleTake with recv := r.abandonAll .closed fun c => c.port == p } :=
      ReceiveUnit.abandonAll_moves (s := { s.settleTake with recv := r }) s.settleTake_take
    refine ((s.settleTake_moves.tail (hport _ _ rfl)).trans (habandoned _)).tail (hport _ _ ?_)
    simp only [List.length_append, List.length_map, List.length_nil]
    omega

theorem State.doPostReceive_moves : Moves .postReceive s s.doPostReceive.1 := by
  unfold State.doPostReceive
  simp only
  repeat' split
  · exact .refl
  · exact .refl
  · exact .refl
  · exact s.settleTake_moves.tail (.posts _ _ _ rfl)

theorem State.doLoadWindow_moves : Moves .loadWindow s s.doLoadWindow.1 := by
  unfold State.doLoadWindow
  simp only
  repeat' split
  · exact .refl
  · exact .refl
  · dsimp only
    exact s.settleTake_moves.tail (.window _ _ _ (.inr (.inl rfl)))

theorem State.doClearWindow_moves : Moves .clearWindow s s.doClearWindow.1 := by
  unfold State.doClearWindow
  split
  · exact .refl
  · dsimp only
    exact s.settleTake_moves.tail (.window _ _ _ (.inr (.inr rfl)))

/-- Flags changed one by one by a mask are a chain of the single changes (R104). -/
theorem Moves.foldl_flags (mask : BitVec 32) {g : State → Fin 32 → State} (hg : ∀ s f, Move c s (g s f))
    (l : List (Fin 32)) (s : State) : Moves c s (l.foldl (fun s f => if mask.getLsbD f.val then g s f else s) s) := by
  induction l generalizing s with
  | nil => exact .refl
  | cons f l ih =>
    rw [List.foldl_cons]
    split
    · exact .head (hg s f) (ih _)
    · exact ih s

theorem State.doSetFlags_moves : Moves .setFlags s s.doSetFlags.1 :=
  Moves.foldl_flags _ (fun s f => .setsFlag s f rfl) _ s

theorem State.doClearFlags_moves : Moves .clearFlags s s.doClearFlags.1 :=
  Moves.foldl_flags _ (fun s f => .clearsFlag s f rfl) _ s

theorem State.doSetSignalMasks_moves : Moves .setSignalMasks s s.doSetSignalMasks.1 :=
  .single (.flagUnit s _ rfl (fun _ _ h => h) (.inr rfl))

/-! ### Every command -/

/-- The commands that are the take of a slot command (Table 11.3). -/
def takesSlot : Instr → Bool
  | .join | .leave | .startLane | .stopLane | .openPort | .closePort | .postReceive | .loadWindow | .clearWindow
  | .setFlags | .clearFlags | .setSignalMasks | .unknownCommand => true
  | _ => false

/-- The host access that a strobe at address `a` begins (R158, R159). -/
def strobeAccess (a : BitVec 15) : HostStrobe → Option HostClaim
  | .write v => some (.write a v)
  | .read => some (.read a true)
  | .readEnds => none

/-- The host access that a command of the host port begins (R158, R162). -/
def beginsAccess : Instr → Option HostClaim
  | .hostMemoryWrite a strobe => strobeAccess a strobe
  | .writeInterruptEnables v => some (.write (controlAddress 3) v)
  | .writeCauses v => some (.write (controlAddress 4) v)
  | .eventAcknowledge v => some (.write (controlAddress 16) v)
  | .commandWordWrite v => some (.write (controlAddress 17) v)
  | .timeBaseLowRead => some (.read (controlAddress 5) true)
  | .controlPageWrite page v => some (.write (controlAddress page) v)
  | _ => none

/-- Command `c` serves the host claim `k`: it begins that access, or the controller serves a claim that waits (R159). -/
def State.servesHost (s : State) (c : Instr) (k : HostClaim) : Prop :=
  beginsAccess c = some k ∨ c = .laneWordAccess ∧ ∃ rest, s.host.claims = k :: rest

/-- The host port with other data driven and other claims waiting. -/
def State.atHostPort (s : State) (d : Option Word) (claims : List HostClaim) : State :=
  { s with host := { s.host with dataOut := d, claims := claims } }

/-- Everything a command but a reset can do: a chain of moves; the same with its slot completed; or, at the host port, data
and claims change and the claim it serves is carried out. -/
inductive Ran (c : Instr) (s : State) : State → Prop
  | moves {t : State} (h : Moves c s t) : Ran c s t
  | slot {u : State} (r : CommandResult) (hc : takesSlot c = true) (ho : s.host.owner = .station) (h : Moves c s u) :
    Ran c s (u.completed r).fill
  | waits (d : Option Word) (claims : List HostClaim) : Ran c s (s.atHostPort d claims)
  | serves (d : Option Word) (claims : List HostClaim) (k : HostClaim) (hk : s.servesHost c k) :
    Ran c s ((s.atHostPort d claims).serveHost k)

theorem Ran.of_event {f : State → State} (h : event s f = .next t) (hf : Ran c s (f s)) : Ran c s t := by
  rcases event_next h with ⟨-, rfl⟩ | ⟨-, rfl⟩
  · exact .moves .refl
  · exact hf

theorem Ran.of_takeCommand {named : BitVec 8 → Bool} {f : State → State × CommandResult}
    (h : takeCommand s named f = .next t) (hc : takesSlot c = true) (hf : Moves c s (f s).1) : Ran c s t := by
  rcases takeCommand_next h with rfl | ⟨-, ho, -, rfl⟩
  · exact .moves .refl
  · exact .slot _ hc ho hf

theorem Ran.of_hostAccess {k : HostClaim} (h : (event s fun s => s.hostAccess k) = .next t)
    (hk : beginsAccess c = some k) : Ran c s t := by
  refine .of_event h ?_
  cases hp : s.hostPathFree with
  | true =>
    rw [State.hostAccess_free hp]
    exact .serves none s.host.claims k (.inl hk)
  | false =>
    rw [State.hostAccess_waits hp]
    exact .waits _ _

theorem State.serveClaim_ran (h : s.serveClaim = .ok t) : Ran .laneWordAccess s t := by
  unfold State.serveClaim at h
  split at h
  · cases h
    exact .moves (Moves.fill (.single (.accesses s)))
  · split at h
    · rename_i k rest hk
      cases h
      exact .serves s.host.dataOut rest k (.inr ⟨rfl, rest, hk⟩)
    · exact .moves (State.serveLane_moves h)

/-- Every command but a reset runs as a chain of moves, with its slot or its host access. -/
theorem exec_ran (h : exec c s = .next t) (hc : c.isReset = false) : Ran c s t := by
  unfold exec at h
  cases c with
  | powerOnReset | pinReset | resetRelease => cases hc
  | frameDelivery f =>
    rcases eventWithAccess_next h with ⟨-, rfl⟩ | ⟨-, ht⟩
    · exact .moves .refl
    · exact .moves (State.frameDelivered_moves ht)
  | laneWordAccess =>
    rcases eventWithAccess_next h with ⟨-, rfl⟩ | ⟨-, ht⟩
    · exact .moves .refl
    · exact State.serveClaim_ran ht
  | lineDisturbance =>
    refine .of_event h (.moves ?_)
    split
    · have hline : Moves .lineDisturbance s { s with line := s.line.disturb, ctl := s.ctl.activity } := Moves.activity id
      exact Moves.fill (hline.trans (State.observedCollision_moves (.inl rfl)))
    · exact .refl
  | readBackMismatch =>
    refine .of_event h (.moves ?_)
    repeat' split
    · exact Moves.fill (State.collide_moves _)
    · exact .refl
    · exact .refl
  | jamEnd released =>
    refine .of_event h (.moves ?_)
    split
    · exact Moves.activity (by cases released <;> exact id)
    · exact .refl
  | lineIdle => exact .of_event h (.moves (Moves.idleBitTime s.line.idleBitTime_reply))
  | stuckCondition =>
    refine .of_event h (.moves ?_)
    split
    · have hline : Moves .stuckCondition s { s with line := s.line.beginStuck, ctl := s.ctl.activity } :=
        Moves.activity fun _ => rfl
      exact Moves.fill ((hline.tail (.exchange _ ExchangeRecord.stuck)).trans State.stuckNotice_moves)
    · exact .refl
  | stuckConditionEnd =>
    refine .of_event h (.moves ?_)
    split
    · exact Moves.idleBitTime rfl
    · exact .refl
  | exchangeEnd =>
    refine .of_event h (.moves ?_)
    split
    · exact Moves.fill (ReflTransGen.head (.line s _ (.inr fun _ => rfl)) State.closeExchange_moves)
    · exact .refl
  | drainComplete => exact .of_event h (.moves (Moves.fill (State.drainTest_moves (.inr (.inr (.inl rfl))))))
  | slotStart =>
    refine .of_event h (.moves ?_)
    split
    · exact State.slotStarts_moves
    · exact .refl
  | replyStart =>
    refine .of_event h (.moves ?_)
    repeat' split
    · exact Moves.activity fun _ => rfl
    · exact .single (.line s _ (.inr fun _ => rfl))
    · exact .refl
  | ownFrameCompletion =>
    refine .of_event h (.moves ?_)
    repeat' split
    · exact State.ownFrameEnds_moves _
    · exact .refl
    · exact .refl
  | silenceTimerExpiry => exact .of_event h (.moves (Moves.fill State.silenceExpires_moves))
  | beaconTimerExpiry => exact .of_event h (.moves State.beaconExpires_moves)
  | holdTimerExpiry i =>
    refine .of_event h (.moves ?_)
    split
    · exact .single (.updateLane s i _)
    · exact .refl
  | waitTimerExpiry i => exact .of_event h (.moves State.waitTimerExpires_moves)
  | waitExpiryTake i => exact .of_event h (.moves State.takeExpiry_moves)
  | waitRequestTake i => exact .of_event h (.moves State.takeWaitRequest_moves)
  | flagRequestTake i => exact .of_event h (.moves State.takeFlagRequest_moves)
  | waitRemovalTake i => exact .of_event h (.moves State.takeRemoval_moves)
  | contextTimerExpiry i => exact .of_event h (.moves (Moves.fill (State.contextExpires_moves i)))
  | presenceTimerExpiry p => exact .of_event h (.moves (Moves.fill (State.presenceExpires_moves p)))
  | queueTake => exact .of_event h (.moves State.takeAndFill_moves)
  | hostMemoryWrite a strobe =>
    cases strobe with
    | write v => exact .of_hostAccess h rfl
    | read => exact .of_hostAccess h rfl
    | readEnds => exact .of_event h (.waits _ _)
  | writeCauses v => exact .of_hostAccess h rfl
  | controlPageWrite page v => exact .of_hostAccess h rfl
  | writeInterruptEnables v => exact .of_hostAccess h rfl
  | eventAcknowledge v => exact .of_hostAccess h rfl
  | commandWordWrite v => exact .of_hostAccess h rfl
  | timeBaseLowRead => exact .of_hostAccess h rfl
  | firstActiveHalfBit =>
    refine .of_event h (.moves ?_)
    split
    · exact Moves.activity fun _ => rfl
    · exact .refl
  | join => exact .of_takeCommand h rfl State.doJoin_moves
  | leave => exact .of_takeCommand h rfl State.doLeave_moves
  | startLane => exact .of_takeCommand h rfl State.doStartLane_moves
  | stopLane => exact .of_takeCommand h rfl State.doStopLane_moves
  | openPort => exact .of_takeCommand h rfl State.doOpenPort_moves
  | closePort => exact .of_takeCommand h rfl State.doClosePort_moves
  | postReceive => exact .of_takeCommand h rfl State.doPostReceive_moves
  | loadWindow => exact .of_takeCommand h rfl State.doLoadWindow_moves
  | clearWindow => exact .of_takeCommand h rfl State.doClearWindow_moves
  | setFlags => exact .of_takeCommand h rfl State.doSetFlags_moves
  | clearFlags => exact .of_takeCommand h rfl State.doClearFlags_moves
  | setSignalMasks => exact .of_takeCommand h rfl State.doSetSignalMasks_moves
  | unknownCommand => exact .of_takeCommand h rfl .refl

end Sys2Proof.Machine
end

section
/-! The bounds that every step keeps (log 14, R27, R28, R98, R110, R126, R149), and the state at reset. -/

namespace Sys2Proof.Machine

open Relation

variable {c : Instr} {s t : State}

/-! ### From moves to commands -/

/-- What moves, changes of the host port and pops of the queue keep, the service of a host claim keeps (R155, R158, R159). -/
theorem State.serveHost_keeps {P : State → Prop} (hmove : ∀ u v, Move c u v → P u → P v)
    (hhost : ∀ (u : State) p, P u → P { u with host := p })
    (hpop : ∀ (u : State) e rest, u.queue.entries = e :: rest → P u →
      P { u with queue := { u.queue with entries := rest } })
    (hs : P s) (k : HostClaim) : P (s.serveHost k) := by
  have hpage (page : BitVec 5) (v : Word) : P (s.pageWrite page v) := by
    unfold State.pageWrite
    split
    case h_2 =>
      have hcauses : Move c { s with host := { s.host with commandDone := s.host.commandDone && !bit v 2 } }
          (s.writeCauses v) := .line _ { s.line with lineFault := s.line.lineFault && !(bit v 1 && !s.line.stuck) } (.inr id)
      exact hmove _ _ hcauses (hhost s _ hs)
    case h_3 =>
      unfold State.acknowledge
      split
      · exact hs
      · rename_i e rest he
        exact (State.fill_moves _).keep (hpop s e rest he hs) hmove
    case h_11 => exact hs
    all_goals exact hhost s _ hs
  cases k with
  | read a driven => exact hhost s _ hs
  | write a v =>
    show P (s.hostWrite a v)
    unfold State.hostWrite
    split
    · rename_i ha
      exact hmove _ _ (.memory s _ (fun hw => wf_writeCell hw ha v) rfl) hs
    · split
      · exact hpage _ v
      · exact hs

/-- What moves, changes of the host port and pops of the queue keep, a command but a reset keeps. -/
theorem Ran.keep {P : State → Prop} (h : Ran c s t) (hs : P s) (hmove : ∀ u v, Move c u v → P u → P v)
    (hhost : ∀ (u : State) p, P u → P { u with host := p })
    (hpop : ∀ (u : State) e rest, u.queue.entries = e :: rest → P u →
      P { u with queue := { u.queue with entries := rest } }) : P t := by
  cases h with
  | moves h => exact h.keep hs hmove
  | slot r hc ho h => exact (State.fill_moves _).keep (hhost _ _ (h.keep hs hmove)) hmove
  | waits d claims => exact hhost s _ hs
  | serves d claims k hk => exact State.serveHost_keeps hmove hhost hpop (hhost s _ hs) k

/-- What every command but a reset keeps, and the resets and one bit time keep, every step keeps. -/
theorem step_keeps {P : State → Prop} (hpending : ∀ (u : State) cs, P u → P { u with pending := cs })
    (htick : P s → P s.tick) (hran : ∀ c (u v : State), Ran c u v → P u → P v)
    (hreset : ∀ c (u v : State), c.isReset = true → exec c u = .next v → P u → P v)
    (h : step s = .next t) (hs : P s) : P t := by
  unfold step at h
  split at h
  · cases h
    exact htick hs
  · rename_i c rest _
    cases hc : c.isReset with
    | true => exact hreset c _ t hc h (hpending s rest hs)
    | false => exact hran c _ t (exec_ran h hc) (hpending s rest hs)

/-! ### Reset -/

theorem reset_queueBounded : State.reset.queueBounded := Nat.zero_le _

theorem reset_bufferCount (p : Fin 16) : State.reset.recv.bufferCount p = 0 := by
  simp [State.reset, ReceiveUnit.reset, ReceiveUnit.bufferCount, ReceiveUnit.openContexts]

theorem reset_portsBounded : State.reset.portsBounded := fun p => by
  rw [reset_bufferCount]; exact Nat.zero_le _

theorem reset_context (i : Fin 12) : State.reset.recv.contexts[i] = none := by
  simp [State.reset, ReceiveUnit.reset]

theorem reset_lists (f : Fin 32) : State.reset.flags.lists[f] = [] := by
  simp [State.reset, FlagUnit.reset]

theorem reset_lane (i : Fin 8) : State.reset.lanes[i] = Lane.reset := by
  simp [State.reset]

theorem reset_window (w : Fin 8) : State.reset.windows[w] = Window.reset := by
  simp [State.reset]

theorem reset_quietOffLine : State.reset.quietOffLine := fun _ =>
  ⟨rfl, rfl, rfl, rfl, rfl, rfl, rfl, rfl, reset_context⟩

theorem reset_setFlagsUnwaited : State.reset.setFlagsUnwaited := fun f _ => reset_lists f

theorem reset_lanesPlaced : State.reset.lanesPlaced := by
  refine ⟨fun i f => ?_, fun i hi => ?_, fun x hx => ?_⟩
  · rw [State.timesListed, reset_lists, reset_lane, Lane.reset]
    rfl
  · rw [reset_lane] at hi
    cases hi
  · simp [State.reset, Scheduler.reset] at hx

theorem reset_receiveConsistent : State.reset.receiveConsistent := by
  refine ⟨fun p b hb => ?_, fun i c hc => ?_, fun i j c d hc => ?_, fun k rest i c opens hk => ?_⟩
  · simp [State.reset, ReceiveUnit.reset] at hb
  · rw [reset_context] at hc; cases hc
  · rw [reset_context] at hc; cases hc
  · cases hk

theorem reset_laneAccesses : Lane.reset.accessesInside :=
  ⟨Nat.zero_le _, fun h => (by cases h), fun h => (by simp [Lane.reset] at h), trivial⟩

/-- Settles O60: each invariant of the state at reset, block by block. -/
theorem resetMeetsTheInvariants : Obligations.ResetMeetsTheInvariants :=
  ⟨reset_memory_wf, reset_queueBounded, reset_portsBounded, reset_quietOffLine, reset_setFlagsUnwaited,
    reset_lanesPlaced, reset_receiveConsistent, fun w => by rw [reset_window]; decide,
    fun i => by rw [reset_lane]; exact reset_laneAccesses⟩

/-- Everything a reset can do (R20, R21): both resets keep of the blocks only the epoch and buffer memory of a pin reset;
the release begins with the line, the straps and the time base. -/
theorem exec_reset (h : exec c s = .next t) (hc : c.isReset = true) :
    (∃ epoch cells, (cells = [] ∨ cells = s.mem.cells) ∧ t = { State.reset with
      ctl := { StationController.reset with epoch := epoch }
      mem := { BufferMemory.reset with cells := cells }
      pending := s.pending }) ∨
    t = s ∨
    ∃ number count rate, t = { s with
      resetHeld := false
      ctl := { s.ctl with number := number, count := count, rate := rate }
      line := LineInterface.reset
      time := TimeBase.reset } := by
  unfold exec at h
  cases c with
  | powerOnReset => cases h; exact .inl ⟨_, _, .inl rfl, rfl⟩
  | pinReset => cases h; exact .inl ⟨_, _, .inr rfl, rfl⟩
  | resetRelease sid scn srt =>
    cases h
    split
    · exact .inr (.inr ⟨_, _, _, rfl⟩)
    · exact .inr (.inl rfl)
  | _ => cases hc

/-! ### One bit time -/

theorem State.tick_memoryCanonical (h : s.memoryCanonical) : s.tick.memoryCanonical := by
  unfold State.tick
  split
  · exact h
  · obtain ⟨hrise, hcells, htake⟩ := (BufferMemory.wf_iff s.mem).mp h
    refine (BufferMemory.wf_iff _).mpr ⟨hrise, hcells, fun k hk => ?_⟩
    obtain ⟨j, hj, rfl⟩ := Option.map_eq_some_iff.mp hk
    exact htake j hj

theorem State.tick_queue (s : State) : s.tick.queue = s.queue := by
  unfold State.tick
  split <;> rfl

theorem State.tick_flags (s : State) : s.tick.flags = s.flags := by
  unfold State.tick
  split <;> rfl

theorem LineInterface.tick_reply {x : LineInterface} (h : x.reply = none) : x.tick.reply = none := by
  unfold LineInterface.tick
  split
  · simp [h]
  · exact h

theorem State.tick_quietOffLine (h : s.quietOffLine) : s.tick.quietOffLine := by
  unfold State.tick
  split
  · exact h
  · intro ho
    obtain ⟨h1, h2, h3, h4, h5, h6, h7, h8, h9⟩ := h ho
    refine ⟨h1, h2, ?_, ?_, h5, h6, LineInterface.tick_reply h7, ?_, fun i => ?_⟩
    · simp [StationController.tick, h3]
    · simp [StationController.tick, h4]
    · simp [h8]
    · rw [State.tick_context, h9 i]; rfl

theorem State.tick_bufferCount (s : State) (p : Fin 16) : s.tick.recv.bufferCount p = s.recv.bufferCount p := by
  unfold State.tick
  split
  · rfl
  · have hopen : ({ s.recv with contexts := s.recv.contexts.map fun c => c.map Context.tick } : ReceiveUnit).openContexts p =
        s.recv.openContexts p := by
      simp only [ReceiveUnit.openContexts, Vector.toList_map, List.countP_map]
      refine List.countP_congr fun x _ => ?_
      cases x <;> rfl
    rw [ReceiveUnit.bufferCount, hopen, ReceiveUnit.bufferCount]

/-! ### Posted buffers -/

/-- A segment store that fits the receive unit takes no more buffers than it gives back. -/
theorem ReceiveUnit.storeCounts_of_fits {r : ReceiveUnit} {i : Fin 12} {x : Context} {opens : Bool}
    (h : r.storeFits i x opens) : r.storeCounts i x opens := by
  obtain ⟨-, hfits⟩ := h
  cases opens with
  | true =>
    obtain ⟨hfree, hhead, -⟩ := hfits
    exact ⟨hfree, fun hnil => by rw [hnil] at hhead; cases hhead⟩
  | false =>
    obtain ⟨d, hd, -, -, hport, -⟩ := hfits
    exact ⟨d, hd, hport⟩

theorem State.workCounts_of_takeFits (h : s.takeFits) {k : LineTake} (hk : s.mem.take = some k) :
    s.recv.workCounts k.work := fun rest i x opens hw => ReceiveUnit.storeCounts_of_fits (h k rest i x opens hk hw)

/-- POST RECEIVE posts only where a port counts less than 8 buffers, and the take it completes leaves no port with more
(R110, R111; log 27). -/
theorem State.doPostReceive_countsWithin (h : s.countsWithin fun _ => Config.portBuffers) :
    s.doPostReceive.1.countsWithin fun _ => Config.portBuffers := by
  obtain ⟨hwork, hcount⟩ := h
  have hsettled : s.settleTake.countsWithin s.recv.bufferCount :=
    (State.settleTake_moves (c := .queueTake) s).keep ⟨hwork, fun _ => le_rfl⟩
      fun _ _ hm => hm.countsWithin (by simp)
  unfold State.doPostReceive
  simp only
  repeat' split
  · exact ⟨hwork, hcount⟩
  · exact ⟨hwork, hcount⟩
  · exact ⟨hwork, hcount⟩
  · rename_i p _ _ hfull
    refine ⟨fun k hk => ?_, fun q => ?_⟩
    · have htake := s.settleTake_take
      rw [show s.settleTake.mem.take = some k from hk] at htake
      cases htake
    · have hsq := hsettled.2 q
      have hq : s.recv.bufferCount q ≤ Config.portBuffers := hcount q
      dsimp only
      rw [ReceiveUnit.bufferCount_updatePort]
      split
      · rename_i hqp
        subst hqp
        rw [ReceiveUnit.bufferCount] at hsq
        simp only [List.length_append, List.length_singleton]
        omega
      · omega

/-- Every command but POST RECEIVE keeps the counts of the ports within their bound (R110). -/
theorem Ran.countsWithin (h : Ran c s t) (hc : c ≠ .postReceive)
    (hs : s.countsWithin fun _ => Config.portBuffers) :
    t.countsWithin fun _ => Config.portBuffers :=
  h.keep hs (fun _ _ hm => hm.countsWithin hc) (fun _ _ hu => hu) fun _ _ _ _ hu => hu

theorem exec_portsBounded (h : exec c s = .next t) (hs : s.countsWithin fun _ => Config.portBuffers) :
    t.portsBounded := by
  cases hr : c.isReset with
  | true =>
    rcases exec_reset h hr with ⟨epoch, cells, -, rfl⟩ | rfl | ⟨number, count, rate, rfl⟩
    · exact reset_portsBounded
    · exact hs.2
    · exact hs.2
  | false =>
    by_cases hc : c = .postReceive
    · subst hc
      replace h : takeCommand s (· == 7) State.doPostReceive = .next t := h
      rcases takeCommand_next h with rfl | ⟨-, -, -, rfl⟩
      · exact hs.2
      · have hposted : ((s.doPostReceive.1).completed (s.doPostReceive).2).countsWithin fun _ => Config.portBuffers :=
          State.doPostReceive_countsWithin hs
        exact (Ran.countsWithin (c := .queueTake) (.moves (State.fill_moves _)) (by simp) hposted).2
    · exact ((exec_ran h hr).countsWithin hc hs).2

/-! ### Every step -/

theorem step_memoryCanonical (h : step s = .next t) (hs : s.memoryCanonical) : t.memoryCanonical := by
  refine step_keeps (P := State.memoryCanonical) (fun _ _ hu => hu) State.tick_memoryCanonical
    (fun c u v hr hu => hr.keep hu (fun _ _ => Move.memoryCanonical) (fun _ _ h => h) fun _ _ _ _ h => h)
    (fun c u v hc hx hu => ?_) h hs
  rcases exec_reset hx hc with ⟨epoch, cells, hcells, rfl⟩ | rfl | ⟨number, count, rate, rfl⟩
  · obtain ⟨hrise, hlisted, -⟩ := (BufferMemory.wf_iff u.mem).mp hu
    refine (BufferMemory.wf_iff _).mpr ?_
    rcases hcells with rfl | rfl
    · exact ⟨.nil, fun c hc => by simp at hc, fun k hk => by cases hk⟩
    · exact ⟨hrise, hlisted, fun k hk => by cases hk⟩
  · exact hu
  · exact hu

theorem step_queueBounded (h : step s = .next t) (hs : s.queueBounded) : t.queueBounded := by
  refine step_keeps (P := State.queueBounded) (fun _ _ hu => hu)
    (fun hq => by rw [State.queueBounded, State.tick_queue]; exact hq)
    (fun c u v hr hu => hr.keep hu (fun _ _ => Move.queueBounded) (fun _ _ h => h) fun w e rest he hw => ?_)
    (fun c u v hc hx hu => ?_) h hs
  · have hlen := congrArg List.length he
    rw [List.length_cons] at hlen
    simp only [State.queueBounded] at *
    omega
  · rcases exec_reset hx hc with ⟨epoch, cells, -, rfl⟩ | rfl | ⟨number, count, rate, rfl⟩
    · exact reset_queueBounded
    · exact hu
    · exact hu

theorem step_quietOffLine (h : step s = .next t) (hs : s.quietOffLine) : t.quietOffLine := by
  refine step_keeps (P := State.quietOffLine) (fun _ _ hu => hu) State.tick_quietOffLine
    (fun c u v hr hu => hr.keep hu (fun _ _ => Move.quietOffLine) (fun _ _ h => h) fun _ _ _ _ h => h)
    (fun c u v hc hx hu => ?_) h hs
  rcases exec_reset hx hc with ⟨epoch, cells, -, rfl⟩ | rfl | ⟨number, count, rate, rfl⟩
  · exact fun _ => reset_quietOffLine rfl
  · exact hu
  · intro ho
    obtain ⟨h1, h2, h3, h4, h5, h6, -, h8, h9⟩ := hu ho
    exact ⟨h1, h2, h3, h4, h5, h6, rfl, h8, h9⟩

theorem step_setFlagsUnwaited (h : step s = .next t) (hs : s.setFlagsUnwaited) : t.setFlagsUnwaited := by
  refine step_keeps (P := State.setFlagsUnwaited) (fun _ _ hu => hu)
    (fun hf => by rw [State.setFlagsUnwaited, State.tick_flags]; exact hf)
    (fun c u v hr hu => hr.keep hu (fun _ _ => Move.setFlagsUnwaited) (fun _ _ h => h) fun _ _ _ _ h => h)
    (fun c u v hc hx hu => ?_) h hs
  rcases exec_reset hx hc with ⟨epoch, cells, -, rfl⟩ | rfl | ⟨number, count, rate, rfl⟩
  · exact reset_setFlagsUnwaited
  · exact hu
  · exact hu

theorem step_portsBounded (h : step s = .next t) (hfits : s.takeFits) (hs : s.portsBounded) : t.portsBounded := by
  unfold step at h
  split at h
  · cases h
    exact fun p => by rw [State.tick_bufferCount]; exact hs p
  · exact exec_portsBounded h ⟨fun k hk => State.workCounts_of_takeFits hfits hk, hs⟩

/-- Settles O58: each bound is kept move by move, and by the resets and one bit time. -/
theorem everyStepKeepsTheBounds : Obligations.EveryStepKeepsTheBounds := fun _ _ h =>
  ⟨step_memoryCanonical h, step_queueBounded h, step_portsBounded h, step_quietOffLine h, step_setFlagsUnwaited h⟩

end Sys2Proof.Machine
end

section
/-! Participation and sync change only as Tables 2.3 and 2.4 list (R23, R29). -/

namespace Sys2Proof.Machine

variable {c : Instr} {s t : State}

/-- The changes of participation, each with its command and its reason (Table 2.3). -/
def participationListed (c : Instr) (before after : Participation) (reason : Reason) : Prop :=
  before = .offline ∧ after = .active ∧ c = .join ∧ reason = .join ∨
  before = .active ∧ after = .leaving ∧ c = .leave ∧ reason = .leave ∨
  before = .active ∧ after = .offline ∧ c = .leave ∧ reason = .drained ∨
  before = .leaving ∧ after = .offline ∧ (c = .exchangeEnd ∨ c = .laneWordAccess ∨ c = .drainComplete) ∧
    reason = .drained ∨
  (before = .leaving ∨ before = .faulted) ∧ after = .offline ∧ c = .leave ∧ reason = .forced ∨
  (before = .active ∨ before = .leaving) ∧ after = .faulted ∧ c = .readBackMismatch ∧ reason = .duplicateStation ∨
  (before = .active ∨ before = .leaving) ∧ after = .faulted ∧ (∃ f, c = .frameDelivery f) ∧ reason = .lineUnusable

/-- A listed change is a change. -/
theorem participationListed.ne {before after : Participation} {reason : Reason}
    (h : participationListed c before after reason) : before ≠ after := by
  rintro rfl
  cases before <;> simp [participationListed] at h

/-- The station controller of `t` against that of `s`, after moves of a command that is not a LEAVE. A changed
participation ends the matter: after a JOIN nothing else changes, and a station that left the line is quiet. -/
def Changed (c : Instr) (s t : State) : Prop :=
  t.ctl.participation = s.ctl.participation ∧ (t.ctl.sync = s.ctl.sync ∨ syncReason c t.ctl.sync t.ctl.reason) ∨
  participationListed c s.ctl.participation t.ctl.participation t.ctl.reason ∧
    (c = .join ∧ t.ctl.participation = .active ∨ t.onLine = false ∧ t.quietOffLine)

/-- What leaves participation, sync and reason alone leaves the account of their changes alone. -/
theorem Changed.of_same {u v : State} (h : Changed c s u) (hp : v.ctl.participation = u.ctl.participation)
    (hs : v.ctl.sync = u.ctl.sync) (hr : v.ctl.reason = u.ctl.reason) (hq : u.quietOffLine → v.quietOffLine) :
    Changed c s v := by
  have ho : v.onLine = u.onLine := by rw [State.onLine, hp]; rfl
  unfold Changed at *
  rw [hp, hs, hr, ho]
  exact h.imp id fun h => ⟨h.1, h.2.imp id fun h => ⟨h.1, hq h.2⟩⟩

theorem State.onLine_eq_false (s : State) :
    s.onLine = false ↔ s.ctl.participation = .offline ∨ s.ctl.participation = .faulted := by
  rw [State.onLine]
  cases s.ctl.participation <;> decide

/-- Each move of a command but LEAVE changes participation and sync as listed. -/
theorem Move.changed {u v : State} (h : Move c u v) (hc : c ≠ .leave) (hs : Changed c s u) : Changed c s v := by
  have hquiet := h.quietOffLine
  cases h with
  | reports h =>
    have hctl := (State.take_frame h).2.2.2.2.2.2.2.2.2.2.2
    exact hs.of_same (by rw [hctl]) (by rw [hctl]) (by rw [hctl]) hquiet
  | learns x ha hx hr =>
    rcases hs with ⟨hp, hsync⟩ | ⟨hl, ⟨rfl, hj⟩ | ⟨ho, hq⟩⟩
    · refine .inl ⟨hx.participation.trans hp, ?_⟩
      rcases hr with ⟨h1, h2⟩ | hr
      · show x.sync = s.ctl.sync ∨ syncReason c x.sync x.reason
        rwa [h1, h2]
      · exact .inr hr
    · rcases hr with ⟨h1, h2⟩ | hr
      · exact .inr ⟨by rw [show _ = _ from hx.participation, show _ = _ from h2]; exact hl,
          .inl ⟨rfl, hx.participation.trans hj⟩⟩
      · revert hr
        cases x.sync <;> simp [syncReason]
    · exact absurd (ha hq) (by simp [ho])
  | joins hj hp =>
    rcases hs with ⟨hsame, -⟩ | ⟨hl, ⟨-, ha⟩ | ⟨ho, hq⟩⟩
    · exact .inr ⟨.inl ⟨hsame ▸ hp, rfl, hj, rfl⟩, .inl ⟨hj, rfl⟩⟩
    · rw [hp] at ha; cases ha
    · subst hj
      rw [hp] at hl
      simp [participationListed] at hl
  | departs hl => exact absurd hl hc
  | goesOffline r ht hr =>
    rcases hr with ⟨hp, hl, rfl⟩ | ⟨-, hl, -⟩
    · rcases hs with ⟨hsame, -⟩ | ⟨-, ⟨-, ha⟩ | ⟨ho, -⟩⟩
      · refine .inr ⟨.inr (.inr (.inr (.inl ⟨hsame ▸ hp, rfl, ?_, rfl⟩))), .inr ⟨rfl, ?_⟩⟩
        · rcases hl with h | h | h | h
          · exact .inl h
          · exact .inr (.inl h)
          · exact .inr (.inr h)
          · exact absurd h hc
        · exact State.quiet_of_leaveLine (s := u) (p := .offline) (r := .drained) ht rfl rfl rfl rfl
            u.recv.offline_contexts
      · rw [hp] at ha; cases ha
      · rw [State.onLine_eq_false, hp] at ho; simp at ho
    · exact absurd hl hc
  | faults r ht ho hr =>
    rcases hs with ⟨hsame, -⟩ | ⟨-, ⟨rfl, -⟩ | ⟨ho', -⟩⟩
    · have hwas : s.ctl.participation = .active ∨ s.ctl.participation = .leaving := by
        rw [State.onLine, hsame] at ho
        simpa using ho
      refine .inr ⟨.inr (.inr (.inr (.inr (.inr ?_)))), .inr ⟨rfl, ?_⟩⟩
      · exact hr.imp (fun h => ⟨hwas, rfl, h.1, h.2⟩) fun h => ⟨hwas, rfl, h.1, h.2⟩
      · exact State.quiet_of_leaveLine (s := u) (p := .faulted) (r := r) ht rfl rfl rfl rfl rfl
    · simp [faultReason] at hr
    · rw [ho] at ho'; cases ho'
  | setsFlag f => rw [State.setFlag_frame] at hquiet ⊢; exact hs.of_same rfl rfl rfl hquiet
  | accesses => rw [State.lineAccess_frame] at hquiet ⊢; exact hs.of_same rfl rfl rfl hquiet
  | _ => exact hs.of_same rfl rfl rfl hquiet

/-- LEAVE changes participation as listed (R25), and with the participation it keeps it keeps sync. -/
theorem State.doLeave_listed (s : State) :
    let t := s.doLeave.1
    t.ctl.participation = s.ctl.participation ∧ t.ctl.sync = s.ctl.sync ∨
      participationListed .leave s.ctl.participation t.ctl.participation t.ctl.reason := by
  unfold State.doLeave
  cases hp : s.ctl.participation with
  | offline => exact .inl ⟨hp, rfl⟩
  | active =>
    right
    simp only
    rcases State.drainTest_cases _ with ⟨h, -⟩ | ⟨h, -⟩ <;> rw [h]
    · exact .inr (.inl ⟨rfl, rfl, rfl, rfl⟩)
    · exact .inr (.inr (.inl ⟨rfl, rfl, rfl, rfl⟩))
  | leaving => exact .inr (.inr (.inr (.inr (.inr (.inl ⟨.inl rfl, rfl, rfl, rfl⟩)))))
  | faulted => exact .inr (.inr (.inr (.inr (.inr (.inl ⟨.inr rfl, rfl, rfl, rfl⟩)))))

/-- Reset release changes at most the straps, the line interface and the time base (R19, R20). -/
theorem exec_release (h : exec c s = .next t) (hr : c.isReset = true) (hpower : c ≠ .powerOnReset) (hpin : c ≠ .pinReset) :
    (∃ a b d, c = .resetRelease a b d) ∧ ∃ held number count rate line time, t = { s with
      resetHeld := held
      ctl := { s.ctl with number := number, count := count, rate := rate }
      line := line
      time := time } := by
  unfold exec at h
  cases c with
  | powerOnReset => exact absurd rfl hpower
  | pinReset => exact absurd rfl hpin
  | resetRelease sid scn srt =>
    cases h
    refine ⟨⟨_, _, _, rfl⟩, ?_⟩
    split
    · exact ⟨_, _, _, _, _, _, rfl⟩
    · exact ⟨_, _, _, _, _, _, rfl⟩
  | _ => cases hr

/-- Every command but the two resets changes participation as Table 2.3 lists, or keeps it and changes sync as Table 2.4
lists. -/
theorem exec_listed (h : exec c s = .next t) (hpower : c ≠ .powerOnReset) (hpin : c ≠ .pinReset) :
    t.ctl.participation = s.ctl.participation ∧ (t.ctl.sync = s.ctl.sync ∨ syncReason c t.ctl.sync t.ctl.reason) ∨
      participationListed c s.ctl.participation t.ctl.participation t.ctl.reason := by
  cases hr : c.isReset with
  | true =>
    obtain ⟨-, held, number, count, rate, line, time, rfl⟩ := exec_release h hr hpower hpin
    exact .inl ⟨rfl, .inl rfl⟩
  | false =>
    by_cases hl : c = .leave
    · subst hl
      replace h : takeCommand s (· == 2) State.doLeave = .next t := h
      rcases takeCommand_next h with rfl | ⟨-, -, -, rfl⟩
      · exact .inl ⟨rfl, .inl rfl⟩
      · rw [State.fill_ctl]
        exact s.doLeave_listed.imp (fun h => ⟨h.1, .inl h.2⟩) id
    · have hchanged : Changed c s t := (exec_ran h hr).keep (.inl ⟨rfl, .inl rfl⟩)
        (fun _ _ hm hu => hm.changed hl hu) (fun _ _ hu => hu) fun _ _ _ _ hu => hu
      exact hchanged.imp id And.left

/-- Settles O55: move by move, with LEAVE, whose two changes set one mark, of its own. -/
theorem participationChangesAsListed : Obligations.ParticipationChangesAsListed := by
  intro s t h
  refine ⟨fun hidle => ?_, fun c rest hcmd hpower hpin => ?_⟩
  · simp only [step, hidle] at h
    cases h
    unfold State.tick
    split <;> exact ⟨rfl, rfl⟩
  · simp only [step, hcmd] at h
    intro before after reason
    rcases exec_listed h hpower hpin with ⟨hp, hsync⟩ | hlisted
    · refine ⟨fun hne => absurd hp.symm hne, fun _ h1 h2 => ?_, fun _ h1 h2 => ?_⟩
      · rcases hsync with hs | hr
        · have he : s.ctl.sync = .synced := hs.symm.trans h2
          rw [h1] at he; cases he
        · rwa [h2] at hr
      · rcases hsync with hs | hr
        · have he : s.ctl.sync = .unsynced := hs.symm.trans h2
          rw [h1] at he; cases he
        · rwa [h2] at hr
    · have hne : before ≠ after := hlisted.ne
      exact ⟨fun _ => hlisted, fun he => absurd he hne, fun he => absurd he hne⟩

end Sys2Proof.Machine
end

section
/-! Which commands may change which state of the host port, the slot and the unit's tables (R20, R24, R105, R113, R132,
R156, R157, R159, R163 to R166). -/

namespace Sys2Proof.Machine

variable {c : Instr} {s t : State} {page : BitVec 5} {a : BitVec 15} {v : Word} {k : HostClaim} {driven : Bool}

/-! ### The host access that a command begins -/

theorem controlAddress_toNat (page : BitVec 5) : (controlAddress page).toNat = 16384 + page.toNat := by
  have hp := page.isLt
  rw [controlAddress, BitVec.toNat_ofNat, Config.memoryWords]
  omega

theorem controlAddress_inj {p q : BitVec 5} (h : controlAddress p = controlAddress q) : p = q := by
  have hn := congrArg BitVec.toNat h
  rw [controlAddress_toNat, controlAddress_toNat] at hn
  exact BitVec.eq_of_toNat_eq (by omega)

/-- The host address whose page word is `page`. -/
theorem controlAddress_of_page (h : 16384 ≤ a.toNat) (hp : a.toNat < 16384 + 32) (n : Fin 32)
    (hn : (BitVec.ofNat 5 (a.toNat - 16384)).toNat = n.val) : a = controlAddress (BitVec.ofFin n) := by
  refine BitVec.eq_of_toNat_eq ?_
  rw [controlAddress_toNat]
  simp only [BitVec.toNat_ofNat, BitVec.toNat_ofFin] at hn ⊢
  omega

/-- The commands that begin a host write to a control page word (R162, Table 11.2). -/
theorem beginsAccess_write (h : beginsAccess c = some (.write (controlAddress page) v)) :
    c = .controlPageWrite page v ∨ (∃ a, c = .hostMemoryWrite a (.write v)) ∨
      page = 3 ∧ c = .writeInterruptEnables v ∨ page = 4 ∧ c = .writeCauses v ∨
      page = 16 ∧ c = .eventAcknowledge v ∨ page = 17 ∧ c = .commandWordWrite v := by
  have same {p : BitVec 5} {w : Word} (h : some (HostClaim.write (controlAddress p) w) = some (.write (controlAddress page) v)) :
      page = p ∧ w = v := by
    rw [Option.some.injEq, HostClaim.write.injEq] at h
    exact ⟨(controlAddress_inj h.1).symm, h.2⟩
  cases c with
  | hostMemoryWrite a strobe =>
    cases strobe with
    | write w => cases h; exact .inr (.inl ⟨_, rfl⟩)
    | _ => cases h
  | controlPageWrite p w => obtain ⟨rfl, rfl⟩ := same h; exact .inl rfl
  | writeInterruptEnables w => obtain ⟨hp, rfl⟩ := same h; exact .inr (.inr (.inl ⟨hp, rfl⟩))
  | writeCauses w => obtain ⟨hp, rfl⟩ := same h; exact .inr (.inr (.inr (.inl ⟨hp, rfl⟩)))
  | eventAcknowledge w => obtain ⟨hp, rfl⟩ := same h; exact .inr (.inr (.inr (.inr (.inl ⟨hp, rfl⟩))))
  | commandWordWrite w => obtain ⟨hp, rfl⟩ := same h; exact .inr (.inr (.inr (.inr (.inr ⟨hp, rfl⟩))))
  | _ => cases h

/-- The commands that begin a host read (R162, R163). -/
theorem beginsAccess_read (h : beginsAccess c = some (.read a driven)) :
    c = .timeBaseLowRead ∨ c = .hostMemoryWrite a .read := by
  cases c with
  | hostMemoryWrite b strobe =>
    cases strobe with
    | read => cases h; exact .inr rfl
    | _ => cases h
  | timeBaseLowRead => exact .inl rfl
  | _ => cases h

/-! ### The host port after a command -/

/-- What the service of a host claim leaves of the host port (R156, R163 to R165). -/
inductive HostPort.Served (h : HostPort) : HostClaim → HostPort → Prop
  | same (k : HostClaim) : Served h k h
  | enables (v : Word) : Served h (.write (controlAddress 3) v) (h.writeEnables v)
  | causes (v : Word) : Served h (.write (controlAddress 4) v) { h with commandDone := h.commandDone && !bit v 2 }
  | command (v : Word) : Served h (.write (controlAddress 17) v) (h.writeCommand v)
  | param (page : BitVec 5) (hp : 18 ≤ page.toNat) (k : Fin 6) (v : Word) :
    Served h (.write (controlAddress page) v) (h.writeParam k v)
  | read (a : BitVec 15) (driven : Bool) (d : Option Word) (latch : Word) :
    Served h (.read a driven) { h with dataOut := d, latch := latch }

theorem State.acknowledge_host (s : State) : s.acknowledge.host = s.host := by
  unfold State.acknowledge
  split
  · rfl
  · rw [State.fill_host]

theorem State.serveHost_served (s : State) (k : HostClaim) : s.host.Served k (s.serveHost k).host := by
  cases k with
  | read a driven => exact .read a driven _ _
  | write a v =>
    show s.host.Served _ (s.hostWrite a v).host
    unfold State.hostWrite
    split
    · exact .same _
    rename_i hlow
    split
    · rename_i hhigh
      rw [Config.memoryWords] at hlow hhigh
      have haddress := controlAddress_of_page (Nat.le_of_not_lt hlow) hhigh
      unfold State.pageWrite
      split <;> rename_i hn
      · rw [haddress 3 hn]; exact .enables v
      · rw [haddress 4 hn]; exact .causes v
      · rw [State.acknowledge_host]; exact .same _
      · rw [haddress 17 hn]; exact .command v
      · rw [haddress 18 hn]; exact .param _ (by decide) 0 v
      · rw [haddress 19 hn]; exact .param _ (by decide) 1 v
      · rw [haddress 20 hn]; exact .param _ (by decide) 2 v
      · rw [haddress 21 hn]; exact .param _ (by decide) 3 v
      · rw [haddress 22 hn]; exact .param _ (by decide) 4 v
      · rw [haddress 23 hn]; exact .param _ (by decide) 5 v
      · exact .same _
    · exact .same _

/-- What a command but a reset leaves of the host port: data driven and claims that wait; the slot's result; or what the
claim it serves writes. -/
inductive HostRan (c : Instr) (s : State) : HostPort → Prop
  | waits (d : Option Word) (claims : List HostClaim) : HostRan c s { s.host with dataOut := d, claims := claims }
  | slot (r : CommandResult) (hc : takesSlot c = true) :
    HostRan c s { s.host with result := r, owner := .host, commandDone := true }
  | serves (d : Option Word) (claims : List HostClaim) (k : HostClaim) (hk : s.servesHost c k) (h : HostPort)
    (hs : HostPort.Served { s.host with dataOut := d, claims := claims } k h) : HostRan c s h

theorem Ran.host (h : Ran c s t) : HostRan c s t.host := by
  cases h with
  | moves h => rw [h.kept.host]; exact .waits s.host.dataOut s.host.claims
  | slot r hc ho h =>
    rw [State.fill_host]
    show HostRan c s { State.host _ with result := r, owner := .host, commandDone := true }
    rw [h.kept.host]
    exact .slot r hc
  | waits d claims => exact .waits d claims
  | serves d claims k hk => exact .serves d claims k hk _ ((s.atHostPort d claims).serveHost_served k)

/-- Beside the host port a command but a reset leaves what no move changes. -/
theorem Ran.kept (h : Ran c s t) : Kept c { s with host := t.host } t :=
  h.keep (P := fun u => Kept c { s with host := u.host } u) (Kept.refl c s)
    (fun u v hm hu => by
      have hk := hm.kept
      simp only [hk.host]
      exact hu.trans hk)
    (fun _ _ hu => { hu with host := rfl }) fun _ _ _ _ hu => { hu with }

/-! ### What changes each part of the host port -/

theorem HostPort.writeCommand_frame (h : HostPort) (v : Word) :
    h.writeCommand v = { h with code := (h.writeCommand v).code, owner := (h.writeCommand v).owner } := by
  unfold HostPort.writeCommand
  repeat' split
  all_goals rfl

theorem HostPort.writeCommand_station {h : HostPort} (ho : h.owner = .station) (v : Word) : h.writeCommand v = h := by
  rw [HostPort.writeCommand, ho]

theorem HostPort.writeParam_frame (h : HostPort) (k : Fin 6) (v : Word) :
    h.writeParam k v = { h with params := (h.writeParam k v).params } := by
  unfold HostPort.writeParam
  split <;> rfl

/-- The command serves no claim that waits at the controller (R159). -/
def State.servesNoWaiting (s : State) (c : Instr) : Prop := (c == .laneWordAccess && !s.host.claims.isEmpty) = false

/-- The host claim a command serves is the one it begins, unless the controller serves a claim that waits (R159). -/
theorem State.servesHost_begins (h : s.servesHost c k) (hs : s.servesNoWaiting c) : beginsAccess c = some k := by
  rcases h with h | ⟨rfl, rest, hrest⟩
  · exact h
  · rw [State.servesNoWaiting, hrest] at hs
    cases hs

/-- A write to page word `page` that a command serves, without a claim that waits, is the command's own (R162). -/
theorem State.servesHost_page (h : s.servesHost c (.write (controlAddress page) v)) (hs : s.servesNoWaiting c)
    (hw : ∀ a v, c ≠ .hostMemoryWrite a (.write v)) :
    c = .controlPageWrite page v ∨ page = 3 ∧ c = .writeInterruptEnables v ∨ page = 4 ∧ c = .writeCauses v ∨
      page = 16 ∧ c = .eventAcknowledge v ∨ page = 17 ∧ c = .commandWordWrite v :=
  (beginsAccess_write (State.servesHost_begins h hs)).imp id fun h => h.resolve_left fun ⟨a, ha⟩ => hw a v ha

/-- The enables change only with a write to word 3 (R156). -/
theorem HostRan.enables {h : HostPort} (hr : HostRan c s h) (hs : s.servesNoWaiting c)
    (h3 : ∀ v, c ≠ .writeInterruptEnables v) (hp : ∀ v, c ≠ .controlPageWrite 3 v)
    (hw : ∀ a v, c ≠ .hostMemoryWrite a (.write v)) :
    h.enableEvent = s.host.enableEvent ∧ h.enableLineFault = s.host.enableLineFault ∧
      h.enableCommandDone = s.host.enableCommandDone := by
  cases hr with
  | waits | slot => exact ⟨rfl, rfl, rfl⟩
  | serves d claims k hk h hserved =>
    cases hserved with
    | enables v =>
      rcases State.servesHost_page hk hs hw with h | ⟨-, h⟩ | ⟨h, -⟩ | ⟨h, -⟩ | ⟨h, -⟩
      · exact absurd h (hp v)
      · exact absurd h (h3 v)
      all_goals exact absurd h (by decide)
    | command v => rw [HostPort.writeCommand_frame]; exact ⟨rfl, rfl, rfl⟩
    | param page hp k v => rw [HostPort.writeParam_frame]; exact ⟨rfl, rfl, rfl⟩
    | _ => exact ⟨rfl, rfl, rfl⟩

/-- The parameters change only with a write to the words 18 to 23 (R165). -/
theorem HostRan.params {h : HostPort} (hr : HostRan c s h) (hs : s.servesNoWaiting c)
    (hp : ∀ p v, c ≠ .controlPageWrite p v) (hw : ∀ a v, c ≠ .hostMemoryWrite a (.write v)) :
    h.params = s.host.params := by
  cases hr with
  | waits | slot => rfl
  | serves d claims k hk h hserved =>
    cases hserved with
    | command v => rw [HostPort.writeCommand_frame]
    | param page hlow k v =>
      rcases State.servesHost_page hk hs hw with h | ⟨rfl, -⟩ | ⟨rfl, -⟩ | ⟨rfl, -⟩ | ⟨rfl, -⟩
      · exact absurd h (hp page v)
      all_goals exact absurd hlow (by decide)
    | _ => rfl

/-- The code changes, and the slot goes to the station, only with a write to word 17 (R165). -/
theorem HostRan.code {h : HostPort} (hr : HostRan c s h) (hs : s.servesNoWaiting c)
    (hp : ∀ p v, c ≠ .controlPageWrite p v) (hc : ∀ v, c ≠ .commandWordWrite v)
    (hw : ∀ a v, c ≠ .hostMemoryWrite a (.write v)) :
    h.code = s.host.code ∧ (s.host.owner = .host → h.owner = .host) := by
  cases hr with
  | waits => exact ⟨rfl, id⟩
  | slot => exact ⟨rfl, fun _ => rfl⟩
  | serves d claims k hk h hserved =>
    cases hserved with
    | command v =>
      rcases State.servesHost_page hk hs hw with h | ⟨h, -⟩ | ⟨h, -⟩ | ⟨h, -⟩ | ⟨-, h⟩
      · exact absurd h (hp 17 v)
      · exact absurd h (by decide)
      · exact absurd h (by decide)
      · exact absurd h (by decide)
      · exact absurd h (hc v)
    | param page hlow k v => rw [HostPort.writeParam_frame]; exact ⟨rfl, id⟩
    | _ => exact ⟨rfl, id⟩

/-- Only the take of a slot command writes the result, sets COMMAND DONE and gives the slot back (R157, R166). -/
theorem HostRan.result {h : HostPort} (hr : HostRan c s h) (hc : takesSlot c = false) :
    h.result = s.host.result ∧ (s.host.owner = .station → h.owner = .station) ∧
      (s.host.commandDone = false → h.commandDone = false) := by
  cases hr with
  | waits => exact ⟨rfl, id, id⟩
  | slot r h => rw [hc] at h; cases h
  | serves d claims k hk h hserved =>
    cases hserved with
    | causes v => exact ⟨rfl, id, fun h => by simp [h]⟩
    | command v =>
      refine ⟨by rw [HostPort.writeCommand_frame], fun h => ?_, fun h => ?_⟩
      · rw [HostPort.writeCommand_station (by exact h)]; exact h
      · rw [HostPort.writeCommand_frame]; exact h
    | param page hlow k v => rw [HostPort.writeParam_frame]; exact ⟨rfl, id, id⟩
    | _ => exact ⟨rfl, id, id⟩

/-- COMMAND DONE is cleared only with a write to word 4 (R164). -/
theorem HostRan.commandDone {h : HostPort} (hr : HostRan c s h) (hs : s.servesNoWaiting c)
    (h4 : ∀ v, c ≠ .writeCauses v) (hp : ∀ v, c ≠ .controlPageWrite 4 v)
    (hw : ∀ a v, c ≠ .hostMemoryWrite a (.write v)) (hd : s.host.commandDone = true) : h.commandDone = true := by
  cases hr with
  | waits => exact hd
  | slot => rfl
  | serves d claims k hk h hserved =>
    cases hserved with
    | causes v =>
      rcases State.servesHost_page hk hs hw with h | ⟨h, -⟩ | ⟨-, h⟩ | ⟨h, -⟩ | ⟨h, -⟩
      · exact absurd h (hp v)
      · exact absurd h (by decide)
      · exact absurd h (h4 v)
      · exact absurd h (by decide)
      · exact absurd h (by decide)
    | command v => rw [HostPort.writeCommand_frame]; exact hd
    | param page hlow k v => rw [HostPort.writeParam_frame]; exact hd
    | _ => exact hd

/-- The high-word latch changes only with a host read (R163). -/
theorem HostRan.latch {h : HostPort} (hr : HostRan c s h) (hs : s.servesNoWaiting c) (h5 : c ≠ .timeBaseLowRead)
    (hw : ∀ a, c ≠ .hostMemoryWrite a .read) : h.latch = s.host.latch := by
  cases hr with
  | waits | slot => rfl
  | serves d claims k hk h hserved =>
    cases hserved with
    | command v => rw [HostPort.writeCommand_frame]
    | param page hlow k v => rw [HostPort.writeParam_frame]
    | read a driven d latch =>
      exact ((beginsAccess_read (State.servesHost_begins hk hs)).elim h5 (hw a)).elim
    | _ => rfl

/-! ### Every command -/

theorem takesSlot_mem (h : takesSlot c = true) :
    c ∈ [Instr.join, .leave, .startLane, .stopLane, .openPort, .closePort, .postReceive, .loadWindow, .clearWindow,
        .setFlags, .clearFlags, .setSignalMasks, .unknownCommand] := by
  cases c with
  | join | leave | startLane | stopLane | openPort | closePort | postReceive | loadWindow | clearWindow | setFlags
  | clearFlags | setSignalMasks | unknownCommand => simp
  | _ => cases h

theorem reachesFlags_of_not (hs : c ≠ .setFlags) (hc : c ≠ .clearFlags) (hw : ∀ i, c ≠ .waitRequestTake i)
    (hf : ∀ i, c ≠ .flagRequestTake i) (hd : ∀ f, c ≠ .frameDelivery f) : reachesFlags c = false := by
  cases c with
  | setFlags => exact absurd rfl hs
  | clearFlags => exact absurd rfl hc
  | waitRequestTake i => exact absurd rfl (hw i)
  | flagRequestTake i => exact absurd rfl (hf i)
  | frameDelivery f => exact absurd rfl (hd f)
  | _ => rfl

/-- Two entries with one definition differ in what the line writes of them (R131, R134). -/
theorem Window.eq_of_definition {w x : Window} (h : w.definition = x.definition) :
    w = { x with updates := w.updates, lastWriter := w.lastWriter, pending := w.pending } := by
  cases w
  cases x
  simp only [Window.definition, Window.mk.injEq] at h ⊢
  simpa using h

/-- Settles O56: beside the host port by what no move changes, at the host port by what each claim served may write. -/
theorem onlyTheNamedCommandsChange : Obligations.OnlyTheNamedCommandsChange := by
  intro s t c h hpower hpin serves
  cases hr : c.isReset with
  | true =>
    obtain ⟨⟨sid, scn, srt, hc⟩, held, number, count, rate, line, time, rfl⟩ := exec_release h hr hpower hpin
    exact ⟨rfl, fun hn => absurd hc (hn sid scn srt), fun _ => rfl, fun _ => ⟨rfl, rfl⟩, fun _ _ _ _ _ => rfl,
      fun _ _ _ => rfl, fun _ _ _ => rfl, fun _ _ _ _ => ⟨rfl, rfl, rfl⟩, fun _ _ _ => rfl, fun _ _ _ _ => ⟨rfl, id⟩,
      fun _ => ⟨rfl, id, id⟩, fun _ _ _ _ => id, fun _ _ _ => rfl⟩
  | false =>
    have hran := exec_ran h hr
    have hk := hran.kept
    have hh := hran.host
    exact ⟨hk.pending, fun _ => ⟨hk.resetHeld, hk.time, hk.number, hk.count, hk.rate⟩, hk.epoch, hk.masks,
      fun hs hc hw hf hd => hk.flags (reachesFlags_of_not hs hc hw hf hd),
      fun hl hc w => Window.eq_of_definition (hk.windows hl hc w), hk.isOpen, hh.enables, hh.params, hh.code,
      fun hc => hh.result (Bool.eq_false_iff.mpr fun hm => hc (takesSlot_mem hm)), hh.commandDone, hh.latch⟩

end Sys2Proof.Machine
end

section
/-! JOIN, LEAVE and the drain test (R24 to R26). -/

namespace Sys2Proof.Machine

variable {s t : State}

/-! ### JOIN -/

/-- A waiting command with its code is taken and completed (R166). -/
theorem takeCommand_waits {n : Nat} {code : BitVec 8} (h : s.commandWaits n) (hn : code.toNat = n)
    (f : State → State × CommandResult) : takeCommand s (· == code) f = .next ((f s).1.completed (f s).2).fill := by
  obtain ⟨hheld, howner, hcode⟩ := h
  have hnamed : (s.host.code == code) = true := beq_iff_eq.mpr (BitVec.eq_of_toNat_eq (hcode.trans hn.symm))
  exact takeCommand_waiting hheld howner hnamed f

theorem exec_join (h : s.commandWaits 1) : exec .join s = .next ((s.doJoin.1).completed (s.doJoin).2).fill :=
  takeCommand_waits h (code := 1) rfl State.doJoin

theorem exec_leave (h : s.commandWaits 2) : exec .leave s = .next ((s.doLeave.1).completed (s.doLeave).2).fill :=
  takeCommand_waits h (code := 2) rfl State.doLeave

theorem StationController.badStraps_iff (k : StationController) :
    k.badStraps = true ↔ k.count = 1 ∨ k.count ≤ k.number.val := by
  simp [StationController.badStraps]

/-- A change of every lane alike is a map over the lanes. -/
theorem State.mapLanes_eq (s : State) (f : Lane → Lane) : s.mapLanes (fun _ l => f l) = { s with lanes := s.lanes.map f } := by
  have hlanes : Vector.ofFn (fun i : Fin 8 => f s.lanes[i]) = s.lanes.map f := by
    ext i hi
    simp
  rw [State.mapLanes, hlanes]

/-- Settles O40, in the order of the judgement. -/
theorem joinIsJudged : Obligations.JoinIsJudged := by
  intro s h
  rw [exec_join h]
  refine ⟨fun hp => ?_, fun hp hbad => ?_, fun hp hcount hnumber => ?_⟩
  · have hjudged : s.doJoin = (s, .wrongState) := if_pos hp
    rw [hjudged]
  · have hjudged : s.doJoin = (s, .strapError) := by
      rw [State.doJoin, if_neg (not_not_intro hp), if_pos (s.ctl.badStraps_iff.mpr hbad)]
    rw [hjudged]
  · have hgood : ¬ s.ctl.badStraps = true := by
      rw [StationController.badStraps_iff]
      omega
    rw [State.doJoin, if_neg (not_not_intro hp), if_neg hgood, State.mapLanes_eq]
    rfl

/-! ### LEAVE and the drain test -/

/-- What the drain test asks of a state (R26). -/
theorem State.drained_iff (s : State) :
    s.drained = true ↔
      (∀ i : Fin 8, s.lanes[i].lineWork = false ∧ s.lanes[i].cancelOwed = false) ∧ s.sched.exchange = none := by
  rw [State.drained, Bool.and_eq_true, Option.isNone_iff_eq_none, Vector.all_eq_true]
  refine and_congr_left fun _ => ⟨fun h i => ?_, fun h i hi => ?_⟩
  · simpa using h i.val i.isLt
  · simpa using h ⟨i, hi⟩

/-- The path after a descriptor changes neither line work nor an owed cancel (R91). -/
theorem Lane.takePath_drain (l : Lane) (i : Fin 8) (st : Status) :
    (l.takePath i st).lineWork = l.lineWork ∧ (l.takePath i st).cancelOwed = l.cancelOwed := by
  rcases l.takePath_cases i st with ⟨r, h⟩ | ⟨a, -, h⟩ <;> rw [h] <;> exact ⟨rfl, rfl⟩

/-- The take of a lane's event changes neither line work nor an owed cancel (R92). -/
theorem Lane.eventTaken_drain (l : Lane) (i : Fin 8) :
    (l.eventTaken i).lineWork = l.lineWork ∧ (l.eventTaken i).cancelOwed = l.cancelOwed := by
  unfold Lane.eventTaken
  simp only
  split
  case h_2 st _ => exact Lane.takePath_drain _ i st
  all_goals exact ⟨rfl, rfl⟩

/-- A drained station stays so through the takes of the event queue (R26, R153). -/
theorem State.take_drained (h : s.take = some t) (hs : s.drained = true) : t.drained = true := by
  have hsched := (State.take_frame h).2.2.1
  obtain ⟨hlanes, hexchange⟩ := s.drained_iff.mp hs
  refine t.drained_iff.mpr ⟨fun i => ?_, by rw [hsched]; exact hexchange⟩
  obtain ⟨pos, e, u, -, -, hr, rfl⟩ := State.take_cases h
  show u.lanes[i].lineWork = false ∧ u.lanes[i].cancelOwed = false
  rcases State.report_lanes hr with ⟨j, -, -, hu⟩ | hu <;> rw [hu]
  · simp only [Fin.getElem_fin, Vector.getElem_set]
    split
    · obtain ⟨hwork, howed⟩ := s.lanes[j].eventTaken_drain j
      exact ⟨hwork.trans (hlanes j).1, howed.trans (hlanes j).2⟩
    · exact hlanes i
  · exact hlanes i

/-- A drained station stays so through the end of the take in progress (log 27). -/
theorem State.settleTake_drained (hs : s.drained = true) : s.settleTake.drained = true := by
  refine State.settleTake_induction (P := fun t => t.drained = true) s hs fun t ht => ?_
  exact State.fill_induction (P := fun t => t.drained = true) t ht fun _ _ hu hv => State.take_drained hv hu

/-- The station as its participation becomes LEAVING (R25). -/
def State.departing (b : State) : State :=
  { b with ctl := { b.ctl with reason := .leave, lineStatePending := true, participation := .leaving } }

theorem State.drainTest_passes (hp : s.ctl.participation = .leaving) (hd : s.drained = true) :
    s.drainTest = s.enterOffline .drained := if_pos ⟨hp, hd⟩

theorem State.drainTest_fails (h : s.ctl.participation ≠ .leaving ∨ s.drained = false) : s.drainTest = s :=
  if_neg fun ⟨hp, hd⟩ => h.elim (absurd hp) fun hn => by rw [hn] at hd; cases hd

/-- LEAVE of an ACTIVE station that has not drained (R25). -/
theorem State.doLeave_undrained (hp : s.ctl.participation = .active) (hd : s.drained = false) :
    s.doLeave = (s.departing, .ok) := by
  rw [State.doLeave, hp]
  simp only [hd, if_neg Bool.false_ne_true]
  exact congrArg (·, CommandResult.ok) (State.drainTest_fails (s := s.departing) (.inr hd))

/-- LEAVE of an ACTIVE station that has drained goes on to OFFLINE (R25, R26). -/
theorem State.doLeave_drained (hp : s.ctl.participation = .active) (hd : s.drained = true) :
    s.doLeave = (s.settleTake.departing.enterOffline .drained, .ok) := by
  rw [State.doLeave, hp]
  simp only [hd, if_pos]
  exact congrArg (·, CommandResult.ok)
    (State.drainTest_passes (s := s.settleTake.departing) rfl (State.settleTake_drained hd))

theorem exec_drainComplete (h : s.resetHeld = false) : exec .drainComplete s = .next s.drainTest.fill :=
  event_running h fun s => s.drainTest.fill

/-- Settles O41, by the participation in which a LEAVE or the test finds the station. -/
theorem leaveAndDrain : Obligations.LeaveAndDrain := by
  intro s drained leaving
  have hdrained : s.drained = true ↔ drained := s.drained_iff
  refine ⟨fun h => ?_, fun h => ?_⟩
  · rw [exec_leave h]
    refine ⟨fun hp => ?_, fun hp hd => ?_, fun hp hd => ?_, fun hp => ?_⟩
    · rw [State.doLeave, hp]
    · rw [State.doLeave_undrained hp (Bool.eq_false_iff.mpr fun h => hd (hdrained.mp h))]
      rfl
    · rw [State.doLeave_drained hp (hdrained.mpr hd)]
      rfl
    · rcases hp with hp | hp <;> rw [State.doLeave, hp]
  · rw [exec_drainComplete h]
    refine ⟨fun hp hd => ?_, fun hn => ?_⟩
    · rw [State.drainTest_passes hp (hdrained.mpr hd)]
    · rw [State.drainTest_fails (hn.imp id fun hd => Bool.eq_false_iff.mpr fun h => hd (hdrained.mp h))]

end Sys2Proof.Machine
end

section
/-! Entry to OFFLINE and to FAULTED, block by block (R27, R28, R54, R70, R71, R95, R126, R144). -/

namespace Sys2Proof.Machine

variable {s t : State} {p : Participation} {r : Reason}

/-- Entry to OFFLINE or FAULTED is the part they share, with the order of the receive unit and of presence (R27, R28). -/
theorem State.left_eq (h : t = s.enterOffline r ∧ p = .offline ∨ t = s.enterFaulted r ∧ p = .faulted) :
    ∃ x y, t = { s.settleTake.leaveLine p r with recv := x, presence := y } ∧
      x.contexts = s.settleTake.recv.faulted.contexts ∧ x.ports = s.settleTake.recv.faulted.ports := by
  rcases h with ⟨rfl, rfl⟩ | ⟨rfl, rfl⟩
  · exact ⟨_, _, rfl, s.settleTake.recv.offline_contexts, s.settleTake.recv.offline_ports⟩
  · exact ⟨_, _, rfl, rfl, rfl⟩

/-! ### The lanes (R95) -/

/-- A lane whose line work stops at the loss of the line: its frame or segment can no longer be sent (R95). -/
def Lane.stopsAtLoss (l : Lane) : Prop :=
  l.state = .queued ∨ l.state = .cancelling ∨ l.state = .held ∨ l.state = .working ∧ ∃ got, l.job = .readPayload got

theorem Lane.lineLoss_stops {l : Lane} (hw : l.lineWork = true ∨ l.cancelOwed = true) (hs : l.stopsAtLoss) :
    l.lineLoss = l.failOffline := by
  rw [Lane.lineLoss, if_pos (by simpa using hw)]
  rcases hs with h | h | h | ⟨h, got, hj⟩
  · rw [h]
  · rw [h]
  · rw [h]
  · rw [h, hj]

theorem Lane.lineLoss_keeps {l : Lane} (h : l.lineWork = false ∧ l.cancelOwed = false ∨ ¬l.stopsAtLoss) :
    l.lineLoss = l := by
  rcases l.lineLoss_cases with hl | ⟨-, hw, hs⟩
  · exact hl
  · rcases h with ⟨h1, h2⟩ | hn
    · rw [h1, h2] at hw
      simp at hw
    · exact absurd hs hn

theorem Lane.not_stopsAtLoss {l : Lane} (h : l.state = .exchange ∨ l.state = .waiting ∨ l.state = .reporting ∨
    l.state = .idle ∨ l.state = .working ∧ ∀ got, l.job ≠ .readPayload got) : ¬l.stopsAtLoss := by
  rintro (hs | hs | hs | ⟨hs, got, hj⟩) <;> rcases h with h | h | h | h | ⟨h, hn⟩
  case inr.inr.inr.inr.inr.inr.inr => exact hn got hj
  all_goals rw [h] at hs; cases hs

/-! ### Presence (R144) -/

/-- A mask to which members of a list are added. -/
theorem foldl_member_getLsbD (c : Fin 32 → Prop) [DecidablePred c] (q : Fin 32) (l : List (Fin 32)) (m : BitVec 32) :
    (l.foldl (fun m p => if c p then m ||| member p else m) m).getLsbD q.val =
      (m.getLsbD q.val || decide (q ∈ l ∧ c q)) := by
  induction l generalizing m with
  | nil => simp
  | cons p l ih =>
    rw [List.foldl_cons, ih]
    by_cases hc : c p
    · rw [if_pos hc, BitVec.getLsbD_or, member_getLsbD]
      by_cases hq : p = q
      · subst hq; simp [hc]
      · simp [hq, Ne.symm hq]
    · rw [if_neg hc]
      by_cases hq : p = q
      · subst hq; simp [hc]
      · simp [Ne.symm hq]

/-- The peers that entry to OFFLINE adds to the changed-pending mask (R144, R145). -/
theorem PresenceTable.offline_changed (x : PresenceTable) (own q : Fin 32) :
    (x.offline own).changed.getLsbD q.val =
      (x.changed.getLsbD q.val || (q != own && x.records[q].state != .unknown)) := by
  rw [PresenceTable.offline, foldl_member_getLsbD fun p => p ≠ own ∧ x.records[p].state ≠ .unknown]
  simp [bne, Bool.beq_eq_decide_eq]

theorem PresenceTable.offline_record (x : PresenceTable) (own q : Fin 32) :
    (x.offline own).records[q] = if q = own then x.records[q] else PresenceRecord.unknown := by
  simp [PresenceTable.offline]

/-- Entry to OFFLINE makes every stream record invalid (R126). -/
theorem ReceiveUnit.offline_stream (x : ReceiveUnit) (q : Fin 32) (l : Fin 8) : x.offline.stream q l = none := by
  simp [ReceiveUnit.offline, ReceiveUnit.clearAllStreams, ReceiveUnit.stream]

/-! ### The entry as a whole -/

/-- The blocks of a station that leaves the line, beside the lanes, the receive unit and presence (R27, R28). -/
theorem State.left_frame (s : State) (p : Participation) (r : Reason) (x : ReceiveUnit) (y : PresenceTable) :
    ({ s.settleTake.leaveLine p r with recv := x, presence := y } : State) = { s.settleTake with
      ctl := { s.ctl with
        participation := p, sync := .unsynced, last := none, silence := none, beacon := none, reason := r
        lineStatePending := true }
      sched := { s.sched with
        pendingAnnounce := false
        beaconDue := false
        reoffer := none
        exchange := s.sched.exchange.map fun x => { x with lineLost := true } }
      line := { s.line with reply := none }
      lanes := (s.settleTake.leaveLine p r).lanes
      recv := x
      presence := y } := by
  rw [State.leaveLine_eq, State.settleTake_ctl, State.settleTake_sched, State.settleTake_line, State.finishTake_line]
  rfl

/-- Settles O42: the station controller, scheduler and line from what the two entries share, the lanes by R95, the
receive unit and presence by their orders. -/
theorem entryToOffline : Obligations.EntryToOffline := by
  intro s r t p h b
  obtain ⟨x, y, hframe, hcontexts, hports⟩ := State.left_eq h
  have hrecv : t.recv = x := by rw [hframe]
  have hpresence : t.presence = y := by rw [hframe]
  rw [← hrecv, ← hpresence] at hframe
  rw [← hrecv] at hcontexts hports
  have hlanes : t.lanes = (b.leaveLine p r).lanes := by rw [hframe]
  have hlane (i : Fin 8) : t.lanes[i] = b.lanes[i].lineLoss := by
    rw [hlanes]; exact b.leaveLine_lanes_get p r i
  refine ⟨?_, fun i => ⟨fun hw hs => ?_, fun hw hc => ?_, fun hs => ?_⟩, fun i => ?_, fun q => ?_, fun hp => ?_,
    fun hp => ?_⟩
  · rw [hlanes]
    exact hframe.trans (s.left_frame p r t.recv t.presence)
  · rw [hlane, Lane.lineLoss_stops hw hs]; rfl
  · rw [hlane, Lane.lineLoss_keeps (.inl ⟨hw, hc⟩)]
  · rw [hlane, Lane.lineLoss_keeps (.inr (Lane.not_stopsAtLoss hs))]
  · rw [hcontexts]; exact b.recv.faulted_spec.1 i
  · have hcount : t.recv.bufferCount q = b.recv.faulted.bufferCount q := by
      rw [ReceiveUnit.bufferCount, ReceiveUnit.openContexts, hcontexts, hports]; rfl
    obtain ⟨hopen, hposted, -⟩ := (b.recv.abandonAll_spec .offline fun _ => true).2.2.2 q
    rw [hcount, hports]
    exact ⟨hopen, hposted, b.recv.abandonAll_completions .offline (fun _ => true) q, b.recv.faulted_bufferCount q⟩
  · obtain rfl : t = s.enterOffline r := h.elim And.left fun h => by rw [h.2] at hp; cases hp
    have hpresence : (s.enterOffline r).presence = b.presence.offline s.ctl.number := by
      rw [← s.settleTake_number]; rfl
    have hrecords : b.presence.records = s.presence.records := s.settleTake_records
    refine ⟨fun q l => b.recv.offline_stream q l, fun q => ⟨fun hq => ?_, fun hq => ?_, ?_⟩⟩
    · rw [hpresence, PresenceTable.offline_record, if_pos hq, hrecords]
    · rw [hpresence, PresenceTable.offline_record, if_neg hq]
    · rw [hpresence, PresenceTable.offline_changed, hrecords]
  · obtain rfl : t = s.enterFaulted r := h.elim (fun h => by rw [h.2] at hp; cases hp) And.left
    exact ⟨b.recv.faulted_spec.2.1, rfl⟩

end Sys2Proof.Machine
end

section
/-! The resets of the station controller (R21), and the silence, beacon and hold timers (R38, R39, R82). -/

namespace Sys2Proof.Machine

variable {s : State}

/-- Settles O3, by evaluation of both resets. -/
theorem resetsOfTheStationController : Obligations.ResetsOfTheStationController := by
  intro s
  refine ⟨_, _, rfl, rfl, ?_, rfl, rfl⟩
  simp only [List.forall_mem_cons, List.not_mem_nil, false_implies, implies_true, and_true]
  exact ⟨⟨rfl, rfl, rfl, rfl, rfl, rfl, rfl, rfl, rfl, rfl, rfl⟩,
    ⟨rfl, rfl, rfl, rfl, rfl, rfl, rfl, rfl, rfl, rfl, rfl⟩⟩

/-! ### Counts at their limits -/

/-- The state in which a silence has acted (R38). -/
def State.silenceActed (s : State) : State :=
  { s with ctl := { s.ctl.gainSync .silence with last := none, silence := some Config.silenceInterval } }

theorem State.silenceExpires_acts (h : s.ctl.silence = some 32767) : s.silenceExpires = s.silenceActed := by
  have hr : reaches Config.silenceInterval 32767 = true := (reaches_iff _ _).mpr (by decide)
  rw [State.silenceExpires, h]
  exact if_pos hr

theorem State.silenceExpires_waits (h : s.ctl.silence ≠ some 32767) : s.silenceExpires = s := by
  unfold State.silenceExpires
  split
  · rename_i n hn
    refine if_neg fun hr => h ?_
    rw [reaches_iff, Config.silenceInterval] at hr
    rw [hn]; exact congrArg some (by omega)
  · rfl

theorem State.beaconExpires_acts (h : s.ctl.beacon = some 16383) :
    s.beaconExpires = { s with
      ctl := { s.ctl with beacon := some 16384 }, sched := { s.sched with beaconDue := true } } := by
  have hr : reaches Config.beaconInterval 16383 = true := (reaches_iff _ _).mpr (by decide)
  rw [State.beaconExpires, h]
  exact if_pos hr

theorem State.beaconExpires_waits (h : s.ctl.beacon ≠ some 16383) : s.beaconExpires = s := by
  unfold State.beaconExpires
  split
  · rename_i n hn
    refine if_neg fun hr => h ?_
    rw [reaches_iff, Config.beaconInterval] at hr
    rw [hn]; exact congrArg some (by omega)
  · rfl

/-- The hold timer of lane `i` reaches H, and the lane re-enters QUEUED (R82). -/
def State.holdExpires (s : State) (i : Fin 8) : State :=
  if s.lanes[i].state = .held ∧ s.lanes[i].hold.any (reached Config.busyHold) then s.updateLane i Lane.requeue else s

theorem State.holdExpires_acts {i : Fin 8} {n : Nat} (hs : s.lanes[i].state = .held) (hn : s.lanes[i].hold = some n)
    (h : 2047 ≤ n) : s.holdExpires i = s.updateLane i Lane.requeue := by
  refine if_pos ⟨hs, ?_⟩
  rw [hn, Option.any_some, reached, decide_eq_true_eq, Config.busyHold]
  omega

theorem State.holdExpires_waits {i : Fin 8}
    (h : s.lanes[i].state ≠ .held ∨ ∀ n, s.lanes[i].hold = some n → n < 2047) : s.holdExpires i = s := by
  refine if_neg fun ⟨hs, hany⟩ => ?_
  obtain ⟨n, hn, hr⟩ := Option.any_eq_true _ _ |>.mp hany
  rw [reached, decide_eq_true_eq, Config.busyHold] at hr
  have hlt := h.resolve_left (not_not_intro hs) n hn
  omega

/-! ### The three expiries -/

theorem exec_silenceTimerExpiry (h : s.resetHeld = false) : exec .silenceTimerExpiry s = .next s.silenceExpires.fill :=
  event_running h fun s => s.silenceExpires.fill

theorem exec_beaconTimerExpiry (h : s.resetHeld = false) : exec .beaconTimerExpiry s = .next s.beaconExpires :=
  event_running h State.beaconExpires

theorem exec_holdTimerExpiry (h : s.resetHeld = false) (i : Fin 8) :
    exec (.holdTimerExpiry i) s = .next (s.holdExpires i) := event_running h fun s => s.holdExpires i

/-- Settles O18: each timer at its limit, and short of it or with no count. -/
theorem silenceBeaconAndHoldTimers : Obligations.SilenceBeaconAndHoldTimers := by
  intro s h
  refine ⟨fun hc => ?_, fun hc => ?_, fun hc => ?_, fun hc => ?_, fun i => ⟨fun n hs hn hle => ?_, fun hw => ?_⟩⟩
  · intro u
    have hu : s.silenceActed = u := by rw [State.silenceActed, StationController.gainSync_eq]; rfl
    have hlimit : u.ctl.silence ≠ some 32767 := by simp [u]
    refine ⟨?_, ?_⟩
    · rw [exec_silenceTimerExpiry h, State.silenceExpires_acts hc, hu]
    · rw [exec_silenceTimerExpiry (s := u) h, State.silenceExpires_waits hlimit]
  · rw [exec_silenceTimerExpiry h, State.silenceExpires_waits hc]
  · rw [exec_beaconTimerExpiry h, State.beaconExpires_acts hc]
  · rw [exec_beaconTimerExpiry h, State.beaconExpires_waits hc]
  · rw [exec_holdTimerExpiry h, State.holdExpires_acts hs hn hle]; rfl
  · rw [exec_holdTimerExpiry h, State.holdExpires_waits hw]

end Sys2Proof.Machine
end

section
/-! What the 35 sources of the event queue report, and what a take removes (R151, R153, Table 10.3). -/

namespace Sys2Proof.Machine

variable {s : State}

/-! ### The positions of the sources (Table 10.3) -/

theorem sourceAt_port (p : Fin 16) : sourceAt (Fin.ofNat 35 p.val) = .port p := by
  revert p; decide

theorem sourceAt_lane (i : Fin 8) : sourceAt (Fin.ofNat 35 (16 + i.val)) = .lane i := by
  revert i; decide

theorem sourceAt_window (w : Fin 8) : sourceAt (Fin.ofNat 35 (24 + w.val)) = .window w := by
  revert w; decide

/-! ### The reports -/

theorem State.report_port {p : Fin 16} {c : Completion} {rest : List Completion}
    (h : s.recv.ports[p].completions = c :: rest) :
    s.report (.port p) =
      some (receiveDoneEvent p c, { s with recv := s.recv.updatePort p fun x => { x with completions := rest } }) := by
  rw [State.report, h]

theorem State.report_lane {i : Fin 8} {e : Event} (h : s.lanes[i].heldEvent = some e) :
    s.report (.lane i) = some (e, s.updateLane i fun x => x.eventTaken i) := by
  rw [State.report, h]

theorem State.report_window {w : Fin 8} (h : 0 < s.windows[w].pending) :
    s.report (.window w) =
      some (windowWrittenEvent w s.windows[w], s.updateWindow w fun x => { x with pending := 0 }) := if_pos h

theorem State.report_signalled (h : s.flags.signalled ≠ 0) :
    s.report .signalled =
      some (setEvent .signalled s.flags.signalled, { s with flags := { s.flags with signalled := 0 } }) := if_neg h

theorem State.report_presence (h : s.presence.changed ≠ 0) :
    s.report .presence = some
      (setEvent .presenceChanged s.presence.changed, { s with presence := { s.presence with changed := 0 } }) := if_neg h

theorem State.report_lineState (h : s.ctl.lineStatePending = true) :
    s.report .lineState =
      some (lineStateEvent s.ctl, { s with ctl := { s.ctl with lineStatePending := false } }) := if_pos h

/-! ### The take of a lane's event (R92) -/

theorem Lane.eventTaken_afterNote {l : Lane} (h : l.job = .afterNote) (i : Fin 8) :
    l.eventTaken i = ({ l with heldEvent := none } : Lane).finish .done := by
  rw [Lane.eventTaken, h]; rfl

theorem Lane.eventTaken_afterDone {l : Lane} {st : Status} (h : l.job = .afterDone st) (i : Fin 8) :
    l.eventTaken i = ({ l with heldEvent := none, state := .working } : Lane).takePath i st := by
  rw [Lane.eventTaken, h]

theorem Lane.eventTaken_afterEnded {l : Lane} (h : l.job = .afterEnded) (i : Fin 8) :
    l.eventTaken i = { l with heldEvent := none, state := .idle, job := .none, stopMark := false } := by
  rw [Lane.eventTaken, h]

/-- Settles O34, source by source. -/
theorem reportsOfTheSources : Obligations.ReportsOfTheSources := by
  intro s
  refine ⟨fun p c rest h => ⟨sourceAt_port p, State.report_port h⟩, fun i e h => ⟨sourceAt_lane i, ?_⟩,
    fun w h => ⟨sourceAt_window w, State.report_window h⟩, fun h => ⟨rfl, State.report_signalled h⟩,
    fun h => ⟨rfl, State.report_presence h⟩, fun h => ⟨rfl, State.report_lineState h⟩⟩
  have hlane : (s.updateLane i fun x => x.eventTaken i).lanes[i] = s.lanes[i].eventTaken i := by
    rw [State.lanes_updateLane_get, if_pos rfl]
  refine ⟨_, State.report_lane h, ?_, fun hj => ?_, fun st hj => ?_, fun hj => ?_⟩
  · rw [hlane]; rfl
  · rw [hlane, Lane.eventTaken_afterNote hj]
  · rw [hlane, Lane.eventTaken_afterDone hj]
  · rw [hlane, Lane.eventTaken_afterEnded hj]

end Sys2Proof.Machine
end

section
/-! The writeback of a descriptor's status (R90), one lane word access at a time (R160). -/

namespace Sys2Proof.Machine

variable {s t : State} {i : Fin 8} {st : Status}

/-! ### A lane's word access -/

/-- The state after the controller has stored a word for lane `i`, which goes on as `f` says (R160). -/
def State.laneStored (s : State) (i : Fin 8) (a : Nat) (w : Word) (f : Lane → Lane) : State :=
  { s with
    mem := { s.mem with lanePointer := i, cells := writeCell a w s.mem.cells }
    lanes := s.lanes.set i (f s.lanes[i]) }

theorem State.laneStored_word (s : State) (i : Fin 8) (a b : Nat) (w : Word) (f : Lane → Lane) :
    (s.laneStored i a w f).word b = if b = a then w else s.word b := readCell_writeCell s.mem.cells a b w

theorem State.laneStored_lane (s : State) (i : Fin 8) (a : Nat) (w : Word) (f : Lane → Lane) :
    (s.laneStored i a w f).lanes[i] = f s.lanes[i] := by
  simp [State.laneStored]

/-- A word store of lane `i` at the controller stays inside buffer memory. -/
theorem State.laneStores_ok {a : Nat} (ha : a < Config.memoryWords) (w : Word) (f : Lane → Lane) :
    ({ s with mem := { s.mem with lanePointer := i } } : State).laneStores i a w f = .ok (s.laneStored i a w f) := by
  rw [State.laneStores, State.writeWord, if_pos ha]
  rfl

/-- The controller serves the lane whose turn it is, with no claim of the line side or the host (R160). -/
theorem exec_laneWordAccess (h : s.resetHeld = false) (hi : s.nextClaim = some i)
    (ha : ({ s with mem := { s.mem with lanePointer := i } } : State).laneAccess i = .ok t) :
    exec .laneWordAccess s = .next t.fill := by
  have hfree : s.hostPathFree = true := by
    by_contra hn
    rw [State.nextClaim, if_neg hn] at hi
    cases hi
  obtain ⟨hline, hhost⟩ : s.mem.lineClaims = false ∧ s.host.claims = [] := by
    simpa [State.hostPathFree] using hfree
  refine eventWithAccess_ok h (f := State.serveClaim) ?_
  rw [State.serveClaim, hline, if_neg Bool.false_ne_true, hhost]
  simp only [State.serveLane, hi, ha]

/-! ### The two words of the writeback -/

/-- D6 is stored with progress and reply code (R90). -/
theorem State.laneAccess_writeProgress (hj : s.lanes[i].job = .writeProgress st) (ha : s.lanes[i].address ≤ 16376) :
    ({ s with mem := { s.mem with lanePointer := i } } : State).laneAccess i =
      .ok (s.laneStored i (s.lanes[i].address + 6) (progressWord s.lanes[i].lastReply (s.lanes[i].progress st))
        fun l => { l with job := .writeStatus st }) := by
  have hinside : s.lanes[i].address + 6 < Config.memoryWords := by rw [Config.memoryWords]; omega
  rw [State.laneAccess]
  simp only [hj]
  exact State.laneStores_ok hinside _ _

/-- D7 is stored with the final status, and the drain is tested (R26, R90). -/
theorem State.laneAccess_writeStatus (hj : s.lanes[i].job = .writeStatus st) (ha : s.lanes[i].address ≤ 16376) :
    ({ s with mem := { s.mem with lanePointer := i } } : State).laneAccess i =
      .ok (s.laneStored i (s.lanes[i].address + 7) (statusWord st) fun l => l.statusWritten i st).drainTest := by
  have hinside : s.lanes[i].address + 7 < Config.memoryWords := by rw [Config.memoryWords]; omega
  rw [State.laneAccess]
  simp only [hj]
  rw [State.laneStores_ok hinside]

/-! ### The lane after the writeback (R90, R91) -/

theorem Lane.reports_iff (l : Lane) (st : Status) :
    l.reports st = true ↔ st.failure = true ∨ (st = .done ∨ st = .expired) ∧ l.notify = true := by
  simp [Lane.reports]

theorem Lane.statusWritten_reports {l : Lane} (h : l.reports st = true) :
    l.statusWritten i st =
      ({ l with lineWork := false } : Lane).post (({ l with lineWork := false } : Lane).doneEvent i st) (.afterDone st) :=
  if_pos h

theorem Lane.statusWritten_silent {l : Lane} (h : ¬l.reports st = true) :
    l.statusWritten i st = ({ l with lineWork := false } : Lane).takePath i st := if_neg h

theorem Lane.statusWritten_lineWork (l : Lane) : (l.statusWritten i st).lineWork = false := by
  by_cases h : l.reports st = true
  · rw [Lane.statusWritten_reports h]; rfl
  · rw [Lane.statusWritten_silent h]; exact (Lane.takePath_drain _ i st).1

/-- Settles O28, word by word. -/
theorem statusIsWrittenBack : Obligations.StatusIsWrittenBack := by
  intro s i st h hi ha l progress
  have hprogress : l.progress st = progress := rfl
  refine ⟨fun hj => ⟨_, exec_laneWordAccess h hi (State.laneAccess_writeProgress hj ha), rfl, rfl, ?_, fun a hne => ?_⟩,
    fun hj => ⟨_, exec_laneWordAccess h hi (State.laneAccess_writeStatus hj ha), ?_, rfl, ?_, fun a hne => ?_, ?_,
      fun hr => ?_, fun hf hn => ?_⟩⟩
  · rw [State.laneStored_word, if_pos rfl]; rfl
  · rw [State.laneStored_word, if_neg hne]
  · rw [State.laneStored_lane]; rfl
  · rw [State.laneStored_word, if_pos rfl]; rfl
  · rw [State.laneStored_word, if_neg hne]
  · rw [State.laneStored_lane, Lane.statusWritten_lineWork]
  · rw [State.laneStored_lane, Lane.statusWritten_reports ((l.reports_iff st).mpr hr)]
    refine ⟨rfl, rfl, ?_⟩
    rw [← hprogress]
    simp only [Lane.post, Lane.doneEvent, Bool.and_eq_true]
    rfl
  · have hsilent : ¬l.reports st = true := by
      rw [Lane.reports_iff, hf]
      rintro (hx | hx)
      · cases hx
      · exact hn hx
    rw [State.laneStored_lane, Lane.statusWritten_silent hsilent]

end Sys2Proof.Machine
end

section
/-! The payload read of a SEND or a WRITE and the store of READ data, one lane word access at a time (R80, R84, R94). -/

namespace Sys2Proof.Machine

variable {s : State} {i : Fin 8} {l : Lane} {got words : List Word} {w : Word}

/-! ### The lane at one word of its payload read -/

theorem Lane.payloadWord_more (h : (got ++ [w]).length < l.payloadWanted) :
    l.payloadWord got w = { l with job := .readPayload (got ++ [w]) } := if_neg (by omega)

theorem Lane.payloadWord_last (h : l.payloadWanted ≤ (got ++ [w]).length) :
    l.payloadWord got w = l.payloadRead (got ++ [w]) := if_pos h

theorem Lane.payloadRead_stopped (h : l.stopMark = true) : l.payloadRead words = l.stopWork := if_pos h

theorem Lane.payloadRead_send (h : l.stopMark = false) (hk : l.kind = some .send) :
    l.payloadRead words = l.offer (l.dataFrame words) := by
  rw [Lane.payloadRead, if_neg (Bool.eq_false_iff.mp h), if_pos hk]

theorem Lane.payloadRead_write (h : l.stopMark = false) (hk : l.kind = some .write) :
    l.payloadRead words = l.offer (l.windowFrame .write words) := by
  have hne : ¬l.kind = some .send := by rw [hk]; decide
  rw [Lane.payloadRead, if_neg (Bool.eq_false_iff.mp h), if_neg hne]

/-! ### The lane at one word of its store -/

theorem Lane.storedWord_last {offset : Nat} : l.storedWord offset [] = l.finish .done := rfl

theorem Lane.storedWord_more {offset : Nat} {rest : List Word} (h : rest ≠ []) :
    l.storedWord offset rest = { l with job := .storeRead (offset + 1) rest } :=
  if_neg (by rwa [List.isEmpty_iff])

/-! ### The accesses -/

/-- A word read of lane `i` at the controller stays inside buffer memory, and the read changes only the lane. -/
theorem State.laneReads_ok {a : Nat} (ha : a < Config.memoryWords) (f : Word → Lane → Lane) :
    ({ s with mem := { s.mem with lanePointer := i } } : State).laneReads i a f =
      .ok (({ s with mem := { s.mem with lanePointer := i } } : State).setLane i (f (s.word a) s.lanes[i])) := by
  rw [State.laneReads, State.readWord, if_pos ha]
  rfl

/-- A word of the payload is read inside buffer memory, and the lane goes on with it (R80, R84, R160). -/
theorem State.laneAccess_readPayload (hj : s.lanes[i].job = .readPayload got)
    (ha : s.lanes[i].payloadBase + got.length < 16384) :
    ({ s with mem := { s.mem with lanePointer := i } } : State).laneAccess i =
      .ok (({ s with mem := { s.mem with lanePointer := i } } : State).setLane i
        (s.lanes[i].payloadWord got (s.word (s.lanes[i].payloadBase + got.length)))) := by
  rw [State.laneAccess]
  simp only [hj]
  exact State.laneReads_ok ha _

/-- A word of READ data is stored inside buffer memory, and the lane goes on with the next (R84, R160). -/
theorem State.laneAccess_storeRead {offset : Nat} {rest : List Word}
    (hj : s.lanes[i].job = .storeRead offset (w :: rest)) (ha : s.lanes[i].bufferAddress + offset < 16384) :
    ({ s with mem := { s.mem with lanePointer := i } } : State).laneAccess i =
      .ok (s.laneStored i (s.lanes[i].bufferAddress + offset) w fun l => l.storedWord offset rest) := by
  rw [State.laneAccess]
  simp only [hj]
  exact State.laneStores_ok ha _ _

/-- Settles O27, access by access. -/
theorem payloadIsReadAndReadDataStored : Obligations.PayloadIsReadAndReadDataStored := by
  intro s i h hi l first wanted base
  have hwanted : l.payloadWanted = wanted := rfl
  constructor
  · intro got hj ha words
    have hread : exec .laneWordAccess s =
        .next (base.setLane i (l.payloadWord got (s.word (first + got.length)))).fill :=
      exec_laneWordAccess h hi (State.laneAccess_readPayload hj ha)
    rw [hread]
    refine ⟨fun hw => ?_, fun hw hs hk => ?_, fun hw hs hk => ?_, fun hw hs => ?_⟩
    · rw [Lane.payloadWord_more hw]
    · rw [Lane.payloadWord_last hw, Lane.payloadRead_send hs hk]; rfl
    · rw [Lane.payloadWord_last hw, Lane.payloadRead_write hs hk]; rfl
    · rw [Lane.payloadWord_last hw, Lane.payloadRead_stopped hs]; rfl
  · intro offset w rest hj ha
    refine ⟨_, exec_laneWordAccess h hi (State.laneAccess_storeRead hj ha), ?_, rfl, ?_, fun a hne => ?_, fun hr => ?_,
      fun hr => ?_⟩
    · rw [State.laneStored_lane]; rfl
    · rw [State.laneStored_word, if_pos rfl]
    · rw [State.laneStored_word, if_neg hne]
    · rw [State.laneStored_lane, hr, Lane.storedWord_last]
    · rw [State.laneStored_lane, Lane.storedWord_more hr]

end Sys2Proof.Machine
end

section
/-! The order in which a delivery is judged (R48 to R52, R54), up to the block that answers it. -/

namespace Sys2Proof.Machine

variable {s t : State} {d : Delivery} {f : FrameEnd}

/-! ### The tests of the header -/

/-- A frame is misplaced when exactly one of its kind and its class is REPLY's (R48). -/
theorem Header.misplaced_iff (h : Header) (k : FrameClass) :
    h.misplaced k = true ↔
      h.kind = some .reply ∧ k = .contention ∨ h.kind ≠ some .reply ∧ h.kind ≠ none ∧ k = .reply := by
  rw [Header.misplaced]
  cases h.kind with
  | none => simp
  | some x => cases x <;> cases k <;> decide

/-- A reply is owed to the addressed frames of every kind but REPLY (R54, Table 3.3). -/
theorem Header.owedReply_iff (h : Header) :
    h.owedReply = true ↔
      h.kind = some .data ∨ h.kind = some .cancel ∨ h.kind = some .read ∨ h.kind = some .write ∨
        h.kind = some .signal ∧ h.all = false := by
  rw [Header.owedReply, Header.addressed]
  cases h.kind with
  | none => simp
  | some x => cases x <;> simp [FrameKind.needsReply]

/-- The addressed frames are those that a reply is owed to, and the replies (R43). -/
theorem Header.addressed_iff (h : Header) : h.addressed = true ↔ h.owedReply = true ∨ h.kind = some .reply := by
  rw [Header.owedReply, Header.addressed]
  cases h.kind with
  | none => simp
  | some x => cases x <;> simp [FrameKind.needsReply]

/-- The broadcasts (R43). -/
theorem Header.broadcast_iff (h : Header) :
    h.broadcast = true ↔ h.kind = some .announce ∨ h.kind = some .beacon ∨ h.kind = some .signal ∧ h.all = true := by
  rw [Header.broadcast]
  cases h.kind with
  | none => simp
  | some x => cases x <;> simp

theorem Header.isFor_iff (h : Header) (own : Fin 32) :
    h.isFor own = true ↔
      h.source ≠ own ∧ (h.broadcast = true ∨ h.addressed = true ∧ h.destination = own) := by
  simp [Header.isFor]

theorem Header.malformed_iff (h : Header) (n : Nat) :
    h.malformed n = true ↔ h.kind = none ∨ n ≤ h.source.val ∨
      h.kind = some .data ∧ h.messageLength ≤ 32 * h.index ∨
      (h.kind = some .data ∨ h.kind = some .cancel) ∧ 15 < h.selector.val ∨
      (h.kind = some .read ∨ h.kind = some .write) ∧ 7 < h.selector.val := by
  simp [Header.malformed, or_assoc]

theorem Delivery.payloadFault_iff (d : Delivery) :
    d.payloadFault = true ↔ d.payloadGood = false ∨ d.payload.length ≠ d.header.expectedCount := by
  simp [Delivery.payloadFault]

/-! ### The steps of the judgement -/

/-- A misplaced frame and one for another station go no further (R48, R49). -/
theorem State.judge_passedOver (hpass : d.header.misplaced d.frameClass = true ∨ d.header.isFor s.ctl.number = false) :
    s.judge d = .ok s := by
  rw [State.judge]
  split
  · rfl
  · rename_i hplaced
    rw [hpass.resolve_left hplaced]
    rfl

/-- Past the first two tests a malformed frame is answered where a reply is owed (R50). -/
theorem State.judge_malformed (hp : d.header.misplaced d.frameClass = false)
    (hf : d.header.isFor s.ctl.number = true) (hm : d.header.malformed s.ctl.count = true) :
    s.judge d = .ok (if d.header.owedReply then s.answer d.header .refusedMalformed [] else s) := by
  simp only [State.judge, hp, hf, hm, Bool.not_true, Bool.false_eq_true, if_false, if_true]
  split <;> rfl

/-- Past the first three tests the frame is handed on (R52). -/
theorem State.judge_wellFormed (hp : d.header.misplaced d.frameClass = false)
    (hf : d.header.isFor s.ctl.number = true) (hm : d.header.malformed s.ctl.count = false) :
    s.judge d = s.handOn d := by
  simp only [State.judge, hp, hf, hm, Bool.not_true, Bool.false_eq_true, if_false]

/-- ANNOUNCE and BEACON ask for nothing more. -/
theorem State.handOn_stationFrame (hk : d.header.kind = some .announce ∨ d.header.kind = some .beacon) :
    s.handOn d = .ok s := by
  rcases hk with hk | hk <;> simp only [State.handOn, hk]

/-- A payload fault of a frame that a reply is owed to is answered CHECK-ERROR by the block of its kind (R51). -/
theorem State.handOn_faulty (hf : d.payloadFault = true) (ho : d.header.owedReply = true) :
    s.handOn d = .ok (s.answer d.header .checkError []) := by
  rcases (Header.owedReply_iff _).mp ho with hk | hk | hk | hk | ⟨hk, hall⟩
  · simp only [State.handOn, hk, State.dataArrival, hf, if_true]; rfl
  · simp only [State.handOn, hk, hf, if_true]
  · simp only [State.handOn, hk, hf, if_true]
  · simp only [State.handOn, hk, State.windowWrite, hf, if_true]; rfl
  · simp only [State.handOn, hk, hf, if_true, hall, Bool.false_eq_true, if_false]

/-- A payload fault of a broadcast SIGNAL is dropped (R51). -/
theorem State.handOn_faultyBroadcast (hf : d.payloadFault = true) (hk : d.header.kind = some .signal)
    (hall : d.header.all = true) : s.handOn d = .ok s := by
  simp only [State.handOn, hk, hf, hall, if_true]

/-! ### The delivery as a whole -/

/-- No take is in progress when a delivery comes to its judgement (log 27). -/
theorem State.afterHeader_take (s : State) (ws : List Word) : (s.afterHeader ws).mem.take = none := by
  rw [State.afterHeader_mem, State.finishTake_take]

/-- A delivery whose judgement begins no take: the queue fills, and nothing else is left to do. -/
theorem exec_frameDelivery_settled (h : s.delivers f.words)
    (hj : (s.afterHeader f.words).judge (s.incoming f.words) = .ok t) (ht : t.mem = (s.afterHeader f.words).mem) :
    exec (.frameDelivery f) s = .next t.fill := by
  have htake : t.mem.take = none := by rw [ht, State.afterHeader_take]
  rw [exec_frameDelivery_judged h hj, State.servesTake_none htake]

/-- Settles O49: the tests one by one, then the steps in their order. -/
theorem deliveriesAreJudgedInOrder : Obligations.DeliveriesAreJudgedInOrder := by
  intro s f d h b answer addressed broadcast
  have howed : h.owedReply = true ↔ addressed := h.owedReply_iff
  have hnumber : b.ctl.number = s.ctl.number := s.afterHeader_number f.words
  have hcount : b.ctl.count = s.ctl.count := s.afterHeader_count f.words
  refine ⟨h.misplaced_iff _, ?_, h.malformed_iff _, d.payloadFault_iff, fun hd => ⟨fun hpass => ?_, fun hp hf => ?_⟩⟩
  · rw [Header.isFor_iff, Header.broadcast_iff, Header.addressed_iff, howed]
  · rw [← hnumber] at hpass
    exact exec_frameDelivery_settled hd (State.judge_passedOver hpass) rfl
  · rw [← hnumber] at hf
    rw [← hcount]
    refine ⟨fun hm ha => ?_, fun hm ha => ?_, fun hm hk => ?_, fun hm hfault ha => ?_, fun hm hfault hk hall => ?_⟩
    · have hj := State.judge_malformed hp hf hm
      rw [if_pos (howed.mpr ha)] at hj
      exact exec_frameDelivery_settled hd hj rfl
    · have hj := State.judge_malformed hp hf hm
      rw [if_neg (mt howed.mp ha)] at hj
      exact exec_frameDelivery_settled hd hj rfl
    · exact exec_frameDelivery_settled hd
        ((State.judge_wellFormed hp hf hm).trans (State.handOn_stationFrame hk)) rfl
    · exact exec_frameDelivery_settled hd
        ((State.judge_wellFormed hp hf hm).trans (State.handOn_faulty hfault (howed.mpr ha))) rfl
    · exact exec_frameDelivery_settled hd
        ((State.judge_wellFormed hp hf hm).trans (State.handOn_faultyBroadcast hfault hk hall)) rfl

end Sys2Proof.Machine
end

section
/-! SIGNAL at the flag unit (R106, R107), CANCEL at the receive unit (R123) and REPLY at the scheduler (R55, R66). -/

namespace Sys2Proof.Machine

variable {s t : State} {d : Delivery} {f : FrameEnd} {r : ReceiveUnit} {h : Header} {i : Fin 12} {x : ExchangeRecord}
  {code : ReplyCode}

/-! ### SIGNAL -/

/-- The state after an accepted SIGNAL on flag `g` (R106): the flag is set and, with notify, in the signalled set. -/
def State.signalSet (s : State) (g : Fin 32) : State :=
  { s.setFlag g with flags := { (s.setFlag g).flags with
    signalled := if s.flags.notify.getLsbD g.val then s.flags.signalled ||| BitVec.twoPow 32 g.val
      else s.flags.signalled } }

theorem State.setFlag_signalled (s : State) (g : Fin 32) : (s.setFlag g).flags.signalled = s.flags.signalled := by
  rw [State.setFlag_flags, FlagUnit.set]
  split <;> rfl

theorem State.signalSet_mem (s : State) (g : Fin 32) : (s.signalSet g).mem = s.mem := by
  rw [State.signalSet, State.setFlag_frame]

theorem State.takeSignal_accepted {g : Fin 32} (ha : s.flags.accept.getLsbD g.val = true) :
    s.takeSignal g = (s.signalSet g, .accepted) := by
  rw [State.takeSignal, if_pos ha, State.signalSet, ← s.setFlag_signalled g]
  split <;> rfl

theorem State.takeSignal_masked {g : Fin 32} (ha : s.flags.accept.getLsbD g.val = false) :
    s.takeSignal g = (s, .refusedMasked) := if_neg (Bool.eq_false_iff.mp ha)

/-- A SIGNAL is handed to the flag unit, and only an addressed one is answered (R106). -/
theorem State.handOn_signal (hf : d.payloadFault = false) (hk : d.header.kind = some .signal)
    (ht : s.takeSignal d.header.selector = (t, code)) :
    s.handOn d = .ok (if d.header.all then t else t.answer d.header code []) := by
  simp only [State.handOn, hk, hf, Bool.false_eq_true, if_false, State.signalArrival, ht]

/-- The take of a delivery before it changes neither the accept mask nor the notify mask. -/
theorem State.afterHeader_masks (s : State) (ws : List Word) :
    (s.afterHeader ws).flags.accept = s.flags.accept ∧ (s.afterHeader ws).flags.notify = s.flags.notify := by
  rw [State.afterHeader_flags, State.settleTake_flags]
  exact ⟨rfl, rfl⟩

/-! ### CANCEL -/

theorem Context.cancelledBy_iff (c : Context) (h : Header) :
    c.cancelledBy h = true ↔
      c.source = h.source ∧ c.lane = h.sourceLane ∧ c.message = h.message ∧ c.port = h.port := by
  simp [Context.cancelledBy, and_assoc]

theorem ReceiveUnit.abandon_some {c : Context} (hc : r.contexts[i] = some c) (st : ReceiveStatus) :
    r.abandon i st = { r with
      contexts := r.contexts.set i none
      ports := r.ports.set c.port { r.ports[c.port] with
        completions := r.ports[c.port].completions ++ [c.completion st c.stored] } } := by
  simp only [ReceiveUnit.abandon, hc]
  rfl

/-- A CANCEL that names no open context changes nothing (R123). -/
theorem ReceiveUnit.cancelArrival_none (hn : ∀ (i : Fin 12) c, r.contexts[i] = some c → ¬c.cancelledBy h = true) :
    r.cancelArrival h = r := by
  have hfind : ((List.finRange 12).find? fun i => r.contexts[i].any (Context.cancelledBy h)) = none := by
    rw [← Fin.find?_eq_find?_finRange, Fin.find?_eq_none_iff]
    intro i
    rw [Bool.eq_false_iff, ne_eq, Option.any_eq_true]
    exact fun ⟨c, hc, hcancelled⟩ => hn i c hc hcancelled
  rw [ReceiveUnit.cancelArrival, hfind]

/-- A CANCEL abandons the lowest entry whose open context it names (R123). -/
theorem ReceiveUnit.cancelArrival_some {c : Context} (hc : r.contexts[i] = some c) (hcancelled : c.cancelledBy h = true)
    (hmin : ∀ (j : Fin 12) e, r.contexts[j] = some e → e.cancelledBy h = true → i ≤ j) :
    r.cancelArrival h = r.abandon i .cancelled := by
  have hfind : ((List.finRange 12).find? fun i => r.contexts[i].any (Context.cancelledBy h)) = some i := by
    rw [← Fin.find?_eq_find?_finRange, Fin.find?_eq_some_iff]
    refine ⟨(Option.any_eq_true _ _).mpr ⟨c, hc, hcancelled⟩, fun j hj => ?_⟩
    rw [Bool.eq_false_iff, ne_eq, Option.any_eq_true]
    exact fun ⟨e, he, hnamed⟩ => absurd (hmin j e he hnamed) (not_le.mpr hj)
  rw [ReceiveUnit.cancelArrival, hfind]

theorem State.handOn_cancel (hf : d.payloadFault = false) (hk : d.header.kind = some .cancel) :
    s.handOn d = .ok ({ s with recv := s.recv.cancelArrival d.header }.answer d.header .accepted []) := by
  simp only [State.handOn, hk, hf, Bool.false_eq_true, if_false]

/-! ### REPLY -/

theorem ReplyCode.ofCode_eq_some_iff (n : Nat) (c : ReplyCode) : ReplyCode.ofCode n = some c ↔ n = c.code := by
  constructor
  · intro hn
    unfold ReplyCode.ofCode at hn
    split at hn <;> cases hn <;> rfl
  · rintro rfl
    cases c <;> rfl

/-- The codes that Table 3.6 lists for a request of each kind. -/
def FrameKind.listedCodes : FrameKind → List ReplyCode
  | .data => [.accepted, .busyNoBuffer, .busyNoContext, .busyPending, .refusedClosed, .refusedLength, .refusedStray,
      .checkError, .refusedMalformed]
  | .cancel => [.accepted, .checkError, .refusedMalformed]
  | .read | .write => [.accepted, .refusedWindow, .refusedBounds, .refusedDenied, .checkError, .refusedMalformed]
  | .signal => [.accepted, .refusedMasked, .checkError, .refusedMalformed]
  | .announce | .beacon | .reply => []

theorem ReplyCode.listedFor_iff (c : ReplyCode) (k : FrameKind) : c.listedFor k = true ↔ c ∈ k.listedCodes := by
  cases k <;> cases c <;> decide

/-- A code suits a request when it is listed for its kind and the count is the one the request asks for (R66). -/
theorem ExchangeRecord.suited_iff (x : ExchangeRecord) (c : ReplyCode) (n : Nat) :
    x.suited c n = true ↔ c ∈ x.head.kind.listedCodes ∧
      n = if x.head.kind = .read ∧ c = .accepted then x.head.h3.toNat % 16 + 1 else 0 := by
  rw [ExchangeRecord.suited, Bool.and_eq_true, ReplyCode.listedFor_iff]
  refine and_congr_right fun _ => ?_
  split <;> simp [field]

theorem ExchangeRecord.matched_iff (x : ExchangeRecord) (h : Header) :
    x.matched h = true ↔ h.source = x.head.destination ∧ h.sourceLane = x.sourceLane ∧
      h.selector = x.head.selector ∧ h.h2 = x.head.h2 := by
  simp [ExchangeRecord.matched, and_assoc]

/-- What makes a reply good (R55). -/
theorem goodReply_eq_some_iff (d : Delivery) (c : ReplyCode) :
    goodReply d = some c ↔ d.header.replyCode = c.code ∧ d.payloadGood = true ∧ d.payload.length ≤ 16 ∧
      d.header.replyCount = d.payload.length ∧ (d.payload = [] ∨ c = .accepted) := by
  rw [← ReplyCode.ofCode_eq_some_iff, goodReply]
  cases ReplyCode.ofCode d.header.replyCode with
  | none => simp
  | some e =>
    simp only [Option.ite_none_right_eq_some, Option.some.injEq]
    constructor
    · rintro ⟨⟨hgood, hfew, hcount, hpayload⟩, rfl⟩
      exact ⟨rfl, hgood, hcount ▸ hfew, hcount, hpayload⟩
    · rintro ⟨rfl, hgood, hfew, hcount, hpayload⟩
      exact ⟨⟨hgood, hcount ▸ hfew, hcount, hpayload⟩, rfl⟩

/-- A good reply that matches and suits decides an exchange in AWAITING with REPLY (R66). -/
theorem ExchangeRecord.takeReply_suits (hx : x.phase = .awaiting) (hg : goodReply d = some code)
    (hm : x.matched d.header = true) (hs : x.suited code d.payload.length = true) :
    x.takeReply d = { x with phase := .decided, outcome := some (.reply code d.payload) } := by
  rw [ExchangeRecord.takeReply, if_pos hx, hg]
  exact if_pos ⟨hm, hs⟩

/-- Any other reply decides it with BAD REPLY (R66). -/
theorem ExchangeRecord.takeReply_bad (hx : x.phase = .awaiting)
    (hn : ∀ c, goodReply d = some c → x.matched d.header = true → ¬x.suited c d.payload.length = true) :
    x.takeReply d = { x with phase := .decided, outcome := some .badReply } := by
  rw [ExchangeRecord.takeReply, if_pos hx]
  cases hg : goodReply d with
  | none => rfl
  | some c => exact if_neg fun ⟨hm, hs⟩ => hn c hg hm hs

/-- An exchange in another phase ignores a reply (R66). -/
theorem ExchangeRecord.takeReply_ignored (hx : x.phase ≠ .awaiting) : x.takeReply d = x := if_neg hx

theorem State.handOn_reply (hk : d.header.kind = some .reply) :
    s.handOn d = .ok { s with sched := { s.sched with exchange := s.sched.exchange.map fun x => x.takeReply d } } := by
  simp only [State.handOn, hk]
  rfl

/-! ### The three frames at their blocks -/

theorem State.reachesBlock.payloadGood {ws : List Word} (h : s.reachesBlock ws) :
    (s.incoming ws).payloadFault = false := by
  obtain ⟨-, -, -, -, hgood⟩ := h
  exact hgood

/-- A delivery that its block answers without a take: the queue fills, and nothing else is left to do. -/
theorem exec_frameDelivery_atBlock (hr : s.reachesBlock f.words)
    (hb : (s.afterHeader f.words).handOn (s.incoming f.words) = .ok t) (ht : t.mem = (s.afterHeader f.words).mem) :
    exec (.frameDelivery f) s = .next t.fill :=
  exec_frameDelivery_settled hr.1 ((State.judge_of_reachesBlock hr).trans hb) ht

/-- A SIGNAL leaves what the flag unit makes of it, and an addressed one the flag unit's answer (R106). -/
theorem exec_frameDelivery_signal (hr : s.reachesBlock f.words) (hk : (s.incoming f.words).header.kind = some .signal)
    (ht : (s.afterHeader f.words).takeSignal (s.incoming f.words).header.selector = (t, code))
    (hmem : t.mem = (s.afterHeader f.words).mem) :
    exec (.frameDelivery f) s =
      .next (if (s.incoming f.words).header.all then t else t.answer (s.incoming f.words).header code []).fill :=
  exec_frameDelivery_atBlock hr (State.handOn_signal hr.payloadGood hk ht) (by split <;> exact hmem)

/-- A CANCEL leaves what the receive unit makes of it, and is ACCEPTED (R123). -/
theorem exec_frameDelivery_cancel (hr : s.reachesBlock f.words) (hk : (s.incoming f.words).header.kind = some .cancel) :
    exec (.frameDelivery f) s = .next (({ s.afterHeader f.words with
      recv := (s.afterHeader f.words).recv.cancelArrival (s.incoming f.words).header } : State).answer
        (s.incoming f.words).header .accepted []).fill :=
  exec_frameDelivery_atBlock hr (State.handOn_cancel hr.payloadGood hk) rfl

/-- A REPLY comes to the scheduler, which alone takes it (R52, R66). -/
theorem exec_frameDelivery_reply (hd : s.delivers f.words) (hk : (s.incoming f.words).header.kind = some .reply)
    (hp : (s.incoming f.words).header.misplaced s.line.rxClass = false)
    (hf : (s.incoming f.words).header.isFor s.ctl.number = true)
    (hm : (s.incoming f.words).header.malformed s.ctl.count = false) :
    exec (.frameDelivery f) s = .next ({ s.afterHeader f.words with
      sched := { s.sched with
        exchange := s.sched.exchange.map fun x => x.takeReply (s.incoming f.words) } } : State).fill := by
  rw [← s.afterHeader_number f.words] at hf
  rw [← s.afterHeader_count f.words] at hm
  rw [← s.afterHeader_sched f.words]
  exact exec_frameDelivery_settled hd ((State.judge_wellFormed hp hf hm).trans (State.handOn_reply hk)) rfl

/-- Settles O53, frame by frame: what each block does with its frame, case by case, put into the delivery. -/
theorem signalCancelAndReply : Obligations.SignalCancelAndReply := by
  intro s f d h b flag answer signalled
  obtain ⟨haccept, hnotify⟩ : b.flags.accept = s.flags.accept ∧ b.flags.notify = s.flags.notify :=
    s.afterHeader_masks f.words
  have hsignalled : b.signalSet flag = signalled := by rw [State.signalSet, hnotify]
  refine ⟨fun hr => ⟨fun hk => ?_, fun hk => ?_⟩, fun hd hk hp hf hm => ?_⟩
  · have hsignal {t : State} {c : ReplyCode} (ht : b.takeSignal flag = (t, c)) (hmem : t.mem = b.mem) :
        exec (.frameDelivery f) s = .next (if h.all then t else answer t c).fill :=
      exec_frameDelivery_signal hr hk ht hmem
    have haccepted (ha : b.flags.accept.getLsbD flag.val = true) : b.takeSignal flag = (signalled, .accepted) := by
      rw [State.takeSignal_accepted ha, hsignalled]
    have hmem : signalled.mem = b.mem := by rw [← hsignalled, State.signalSet_mem]
    rw [← haccept]
    refine ⟨fun ha hall => ?_, fun ha hall => ?_, fun ha hall => ?_, fun ha hall => ?_⟩
    · rw [hsignal (haccepted ha) hmem, if_pos hall]
    · rw [hsignal (haccepted ha) hmem, if_neg (Bool.eq_false_iff.mp hall)]
    · rw [hsignal (State.takeSignal_masked ha) rfl, if_pos hall]
    · rw [hsignal (State.takeSignal_masked ha) rfl, if_neg (Bool.eq_false_iff.mp hall)]
  · intro named
    have hnamed (c : Context) : c.cancelledBy h = true ↔ named c := c.cancelledBy_iff h
    have hcancel : exec (.frameDelivery f) s = .next (answer { b with recv := b.recv.cancelArrival h } .accepted).fill :=
      exec_frameDelivery_cancel hr hk
    rw [hcancel]
    refine ⟨fun hn => ?_, fun i c hc hcn hmin => ?_⟩
    · rw [ReceiveUnit.cancelArrival_none fun i c hc => mt (hnamed c).mp (hn i c hc)]
    · rw [ReceiveUnit.cancelArrival_some hc ((hnamed c).mpr hcn) fun j e he hen => hmin j e he ((hnamed e).mp hen),
        ReceiveUnit.abandon_some hc]
      rfl
  · have htaken := exec_frameDelivery_reply hd hk hp hf hm
    have hignored (he : (s.sched.exchange.map fun x => x.takeReply d) = s.sched.exchange) :
        exec (.frameDelivery f) s = .next b.fill := by
      rw [htaken, he, ← s.afterHeader_sched f.words]
    refine ⟨fun hx => hignored (by rw [hx]; rfl), fun x hx => ?_⟩
    intro decided good matching suits
    have hgood (c : ReplyCode) : goodReply d = some c ↔ good c := goodReply_eq_some_iff d c
    have hmatching : x.matched h = true ↔ matching := x.matched_iff h
    have hsuits (c : ReplyCode) : x.suited c d.payload.length = true ↔ suits c := by
      rw [ExchangeRecord.suited_iff]
      refine and_congr_left fun _ => ?_
      cases x.head.kind <;> simp [FrameKind.listedCodes]
    rw [hx, Option.map_some] at htaken
    refine ⟨fun hp => hignored ?_, fun c hp hg hm hs => ?_, fun hp hn => ?_⟩
    · rw [hx, Option.map_some, ExchangeRecord.takeReply_ignored hp]
    · rw [htaken, ExchangeRecord.takeReply_suits hp ((hgood c).mpr hg) (hmatching.mpr hm) ((hsuits c).mpr hs)]
    · rw [htaken, ExchangeRecord.takeReply_bad hp fun c hg hm hs =>
        hn c ((hgood c).mp hg) (hmatching.mp hm) ((hsuits c).mp hs)]

end Sys2Proof.Machine
end

section
/-! The outcomes of requests, broadcasts and owed cancels, and the outcomes of stopped lanes (R83 to R86, R94). -/

namespace Sys2Proof.Machine

variable {l : Lane} {o : ExchangeOutcome} {c : ReplyCode} {w : Word} {ws : List Word}

/-! ### Which rule takes an outcome -/

theorem Lane.takeOutcome_lineLost (l : Lane) : l.takeOutcome .lineLost = l.failOffline := rfl

theorem Lane.takeOutcome_owed (hc : l.cancelOwed = true) (ho : o ≠ .lineLost) :
    l.takeOutcome o = l.cancelOutcome o := by
  unfold Lane.takeOutcome
  rw [if_neg ho, if_pos hc]

/-- A READ, a WRITE or an addressed SIGNAL. -/
def Lane.isRequest (l : Lane) : Prop :=
  l.kind = some .read ∨ l.kind = some .write ∨ l.kind = some .signal ∧ l.all = false

theorem Lane.takeOutcome_request (hc : l.cancelOwed = false) (hk : l.isRequest) (ho : o ≠ .lineLost) :
    l.takeOutcome o = if l.stopMark then l.requestOutcomeStopped o else l.requestOutcome o := by
  unfold Lane.takeOutcome
  rcases hk with hk | hk | ⟨hk, hall⟩ <;> simp [*]

theorem Lane.takeOutcome_broadcast (hc : l.cancelOwed = false) (hk : l.kind = some .signal) (hall : l.all = true)
    (ho : o ≠ .lineLost) : l.takeOutcome o = l.broadcastOutcome o := by
  unfold Lane.takeOutcome
  simp [hc, hk, hall, ho]

theorem Lane.takeOutcome_stoppedSend (hc : l.cancelOwed = false) (hk : l.kind = some .send) (hs : l.stopMark = true)
    (ho : o ≠ .lineLost) : l.takeOutcome o = l.sendOutcomeStopped o := by
  unfold Lane.takeOutcome
  simp [hc, hk, hs, ho]

/-! ### Accepted requests -/

/-- An accepted READ stores the words of a reply of its length (R84). -/
theorem Lane.requestAccepted_read (hk : l.kind = some .read) (hl : (w :: ws).length = l.length) :
    l.requestAccepted (w :: ws) =
      { l with lastReply := some .accepted, state := .working, job := .storeRead 0 (w :: ws), frame := none } := by
  unfold Lane.requestAccepted
  simp only
  rw [if_pos hk, ← hl, List.take_length]
  rfl

theorem Lane.requestAccepted_other (hk : l.kind ≠ some .read) :
    l.requestAccepted ws = { l with lastReply := some .accepted }.finish .done := if_neg hk

/-- A reply code that neither accepts a request nor reports a check error refuses it (R84, R85). -/
theorem Lane.requestReply_refused (ha : c ≠ .accepted) (he : c ≠ .checkError) :
    l.requestReply c ws = { l with lastReply := some c }.finish .refused := by
  cases c with
  | accepted => exact absurd rfl ha
  | checkError => exact absurd rfl he
  | _ => rfl

/-! ### Stopped lanes -/

/-- Nothing but an acceptance changes what a stopped SEND does (R94). -/
theorem Lane.sendOutcomeStopped_other (ho : ∀ ws, o ≠ .reply .accepted ws) : l.sendOutcomeStopped o = l.stopWork := by
  cases o with
  | reply c ws =>
    have hc : c ≠ .accepted := fun h => ho ws (h ▸ rfl)
    exact if_neg hc
  | _ => rfl

/-- Nothing but an acceptance completes a stopped request (R94). -/
theorem Lane.requestOutcomeStopped_other (ho : ∀ ws, o ≠ .reply .accepted ws) :
    l.requestOutcomeStopped o = l.finish .stopped := by
  cases o with
  | reply c ws =>
    have hc : c ≠ .accepted := fun h => ho ws (h ▸ rfl)
    exact if_neg hc
  | _ => rfl

theorem Lane.stopWork_send (hk : l.kind = some .send) :
    l.stopWork = if 1 ≤ l.segment then l.oweCancel .stopped else l.finish .stopped := by
  unfold Lane.stopWork
  simp only [hk, true_and]

theorem Lane.allSent_advance (l : Lane) : l.advance.allSent = decide (segmentCount l.length ≤ l.segment + 1) := rfl

/-- An accepted last segment completes a stopped SEND (R94). -/
theorem Lane.sendOutcomeStopped_last (h : segmentCount l.length ≤ l.segment + 1) :
    l.sendOutcomeStopped (.reply .accepted ws) = l.advance.finish .done := by
  simp only [Lane.sendOutcomeStopped, if_true, Lane.allSent_advance, decide_eq_true h]

/-- An accepted segment before the last advances a stopped SEND, which then owes a cancel (R94, log 17). -/
theorem Lane.sendOutcomeStopped_notLast (hk : l.kind = some .send) (h : l.segment + 1 < segmentCount l.length) :
    l.sendOutcomeStopped (.reply .accepted ws) = l.advance.oweCancel .stopped := by
  have hmore : l.advance.stopWork = l.advance.oweCancel .stopped :=
    (Lane.stopWork_send (l := l.advance) hk).trans (if_pos (Nat.le_add_left 1 l.segment))
  simp only [Lane.sendOutcomeStopped, if_true, Lane.allSent_advance, decide_eq_false (Nat.not_le.mpr h),
    Bool.false_eq_true, if_false, hmore]

/-! ### The obligations -/

/-- Settles O31: the rule of each kind, then its outcomes one by one. -/
theorem requestBroadcastAndCancelOutcomes : Obligations.RequestBroadcastAndCancelOutcomes := by
  intro l again retried
  refine ⟨fun hc hs hk => ?_, fun hc hs hk hall => ?_, fun hc => ⟨?_, fun o st ho hl hp => ?_, l.takeOutcome_lineLost⟩⟩
  · have hout {o : ExchangeOutcome} (ho : o ≠ .lineLost) : l.takeOutcome o = l.requestOutcome o := by
      rw [Lane.takeOutcome_request hc hk ho, hs]; rfl
    refine ⟨fun w ws hr hl => ?_, fun ws hr => ?_, fun ws => ?_, fun c ws ha he => ?_, ?_, ?_, ?_,
      l.takeOutcome_lineLost⟩
    · exact (hout (by nofun)).trans (Lane.requestAccepted_read hr hl)
    · exact (hout (by nofun)).trans (Lane.requestAccepted_other hr)
    · exact hout (by nofun)
    · exact (hout (by nofun)).trans (Lane.requestReply_refused ha he)
    · exact hout (by nofun)
    · exact hout (by nofun)
    · exact hout (by nofun)
  · have hout {o : ExchangeOutcome} (ho : o ≠ .lineLost) : l.takeOutcome o = l.broadcastOutcome o :=
      Lane.takeOutcome_broadcast hc hk hall ho
    refine ⟨hout (by nofun), ?_, ?_, l.takeOutcome_lineLost⟩
    · exact (hout (by nofun)).trans (if_neg (Bool.eq_false_iff.mp hs))
    · exact (hout (by nofun)).trans (if_neg (Bool.eq_false_iff.mp hs))
  · exact (Lane.takeOutcome_owed hc (by nofun)).trans (if_pos rfl)
  · rw [Lane.takeOutcome_owed hc hl, Lane.cancelOutcome, if_neg ho, hp]
    rfl

/-- Settles O32: a stopped lane's rule by its kind, where an acceptance is the one outcome applied. -/
theorem stoppedOutcomes : Obligations.StoppedOutcomes := by
  intro l hs hc
  have hrequest {o : ExchangeOutcome} (hk : l.isRequest) (ho : o ≠ .lineLost) :
      l.takeOutcome o = l.requestOutcomeStopped o := by
    rw [Lane.takeOutcome_request hc hk ho, if_pos hs]
  refine ⟨fun _ => l.takeOutcome_lineLost, fun hk w ws hl => ?_, fun hk => ⟨fun ws h => ?_, fun ws h => ?_,
    fun o ha ho => ?_⟩, fun hk => ⟨fun ws => ?_, fun o ha ho => ?_⟩, fun hk o ha ho => ?_, fun hk hall => ?_⟩
  · exact (hrequest (.inl hk) (by nofun)).trans (Lane.requestAccepted_read hk hl)
  · exact (Lane.takeOutcome_stoppedSend hc hk hs (by nofun)).trans (Lane.sendOutcomeStopped_last h)
  · exact (Lane.takeOutcome_stoppedSend hc hk hs (by nofun)).trans (Lane.sendOutcomeStopped_notLast hk h)
  · rw [Lane.takeOutcome_stoppedSend hc hk hs ho, Lane.sendOutcomeStopped_other ha, Lane.stopWork_send hk]
  · have hne : l.kind ≠ some .read := by rcases hk with hk | ⟨hk, -⟩ <;> rw [hk] <;> decide
    exact (hrequest (.inr hk) (by nofun)).trans (Lane.requestAccepted_other hne)
  · exact (hrequest (.inr hk) ho).trans (Lane.requestOutcomeStopped_other ha)
  · exact (hrequest (.inl hk) ho).trans (Lane.requestOutcomeStopped_other ha)
  · have hout {o : ExchangeOutcome} (ho : o ≠ .lineLost) : l.takeOutcome o = l.broadcastOutcome o :=
      Lane.takeOutcome_broadcast hc hk hall ho
    refine ⟨hout (by nofun), ?_, ?_⟩
    · exact (hout (by nofun)).trans (if_pos hs)
    · exact (hout (by nofun)).trans (if_pos hs)

end Sys2Proof.Machine
end

section
/-! The blocks beside the station controller after the resets (R57, R73, R96, R97, R128, R130, R140, R149, R160, R163,
R168). -/

namespace Sys2Proof.Machine

variable {s : State}

/-- The state after either reset: the reset state, but for what each reset keeps (R21, R168, log 1). -/
def State.resetKeeping (epoch : BitVec 4) (cells : List (Nat × Word)) (waiting : List Instr) : State :=
  { State.reset with
    ctl := { StationController.reset with epoch := epoch }
    mem := { BufferMemory.reset with cells := cells }
    pending := waiting }

theorem exec_powerOnReset (s : State) : exec .powerOnReset s = .next (State.resetKeeping 0 [] s.pending) := rfl

theorem exec_pinReset (s : State) :
    exec .pinReset s = .next (State.resetKeeping s.ctl.epoch s.mem.cells s.pending) := rfl

theorem reset_port (p : Fin 16) :
    State.reset.recv.ports[p] = { isOpen := false, posted := [], completions := [] } := by
  simp [State.reset, ReceiveUnit.reset]

theorem reset_stream (p : Fin 32) (i : Fin 8) : State.reset.recv.stream p i = none := by
  simp [State.reset, ReceiveUnit.reset, ReceiveUnit.stream]

theorem reset_presence (p : Fin 32) : State.reset.presence.records[p] = PresenceRecord.unknown := by
  simp [State.reset, PresenceTable.reset, PresenceRecord.unknown]

theorem reset_param (k : Fin 6) : State.reset.host.params[k] = 0 := by
  simp [State.reset, HostPort.reset]

/-- Settles O4: both resets leave the blocks of the reset state, whose vectors hold one value throughout. -/
theorem resetsOfTheOtherBlocks : Obligations.ResetsOfTheOtherBlocks := by
  intro s
  refine ⟨_, _, exec_powerOnReset s, exec_pinReset s, ?_, fun a => rfl⟩
  intro v hv
  obtain ⟨epoch, cells, rfl⟩ : ∃ epoch cells, v = State.resetKeeping epoch cells s.pending := by
    rcases List.mem_cons.mp hv with rfl | hv
    · exact ⟨_, _, rfl⟩
    · exact ⟨_, _, List.mem_singleton.mp hv⟩
  exact ⟨rfl, rfl, rfl, rfl, rfl, rfl, rfl, rfl, reset_lane, rfl, rfl, rfl, rfl, reset_lists, reset_port, reset_context,
    reset_stream, reset_window, reset_presence, rfl, rfl, rfl, rfl, rfl, rfl, reset_param, rfl, rfl, rfl, rfl, rfl, rfl,
    rfl, rfl, rfl, rfl, rfl, rfl, rfl, rfl⟩

end Sys2Proof.Machine
end

section
/-! The scheduler's choice by the five rules, and what it opens (R59). -/

namespace Sys2Proof.Machine

variable {s : State} {p i : Fin 8} {q : Fin 8 → Bool} {o : Owner}

/-! ### Round-robin order -/

theorem turnPlace_succ_self : ∀ p : Fin 8, turnPlace p (p + 1) = 0 := by decide

theorem turnPlace_self : ∀ p : Fin 8, turnPlace p p = 7 := by decide

theorem turnPlace_succ : ∀ p i : Fin 8, i ≠ p → turnPlace p (i + 1) = turnPlace p i + 1 := by decide

theorem roundRobin_ordered : ∀ p : Fin 8, (roundRobin p).Pairwise fun i j => turnPlace p i < turnPlace p j := by decide

/-- The lane taken is the one whose place comes first. -/
theorem find?_roundRobin_first (hi : q i = true) (hmin : ∀ j, q j = true → turnPlace p i ≤ turnPlace p j) :
    (roundRobin p).find? q = some i := by
  obtain ⟨before, after, hsplit⟩ := List.append_of_mem (mem_roundRobin p i)
  refine List.find?_eq_some_iff_append.mpr ⟨hi, before, after, hsplit, fun j hj => ?_⟩
  have hlt : turnPlace p j < turnPlace p i := by
    have h := roundRobin_ordered p
    rw [hsplit, List.pairwise_append] at h
    obtain ⟨-, -, hbefore⟩ := h
    exact hbefore j hj i List.mem_cons_self
  rw [Bool.not_eq_true', ← Bool.not_eq_true]
  exact fun hq => absurd (hmin j hq) (by omega)

theorem find?_roundRobin_none (h : ∀ j, q j = false) : (roundRobin p).find? q = none :=
  List.find?_eq_none.mpr fun j _ => by simp [h j]

/-! ### Offers and the five rules -/

theorem State.offersCancel_iff (s : State) (i : Fin 8) :
    s.offersCancel i = true ↔ s.lanes[i].state = .cancelling ∧ s.lanes[i].frame ≠ none := by
  rw [State.offersCancel, Bool.and_eq_true, beq_iff_eq, Option.isSome_iff_ne_none]

theorem State.offersFrame_iff (s : State) (i : Fin 8) :
    s.offersFrame i = true ↔ s.lanes[i].state = .queued ∧ s.lanes[i].frame ≠ none := by
  rw [State.offersFrame, Bool.and_eq_true, beq_iff_eq, Option.isSome_iff_ne_none]

theorem State.reoffered_some (hm : s.sched.reoffer = some i) (h : s.offersCancel i = true ∨ s.offersFrame i = true) :
    s.reoffered = some i := by
  simp only [State.reoffered, hm]
  exact if_pos (Bool.or_eq_true _ _ ▸ h)

theorem State.reoffered_none
    (h : ∀ i, s.sched.reoffer = some i → s.offersCancel i = false ∧ s.offersFrame i = false) : s.reoffered = none := by
  unfold State.reoffered
  split
  · obtain ⟨hc, hf⟩ := h _ ‹_›
    rw [hc, hf]; rfl
  · rfl

/-- Rule 1 of R59. -/
theorem State.choose_announce (ha : s.sched.pendingAnnounce = true) : s.choose = some .announce := if_pos ha

/-- Rule 2 of R59. -/
theorem State.choose_reoffered (ha : s.sched.pendingAnnounce = false) (hr : s.reoffered = some i) :
    s.choose = some (.lane i) := by
  simp [State.choose, ha, hr]

/-- Rule 3 of R59. -/
theorem State.choose_cancel (ha : s.sched.pendingAnnounce = false) (hr : s.reoffered = none)
    (hi : (roundRobin s.sched.rotation).find? s.offersCancel = some i) : s.choose = some (.lane i) := by
  simp [State.choose, ha, hr, hi]

/-- Rule 4 of R59. -/
theorem State.choose_frame (ha : s.sched.pendingAnnounce = false) (hr : s.reoffered = none)
    (hc : ∀ j, s.offersCancel j = false)
    (hi : (roundRobin s.sched.rotation).find? s.offersFrame = some i) : s.choose = some (.lane i) := by
  simp [State.choose, ha, hr, find?_roundRobin_none hc, hi]

/-- Rule 5 of R59. -/
theorem State.choose_beacon (ha : s.sched.pendingAnnounce = false) (hr : s.reoffered = none)
    (hc : ∀ j, s.offersCancel j = false) (hf : ∀ j, s.offersFrame j = false) :
    s.choose = if s.sched.beaconDue then some .beacon else none := by
  simp [State.choose, ha, hr, find?_roundRobin_none hc, find?_roundRobin_none hf]

/-! ### Opening and passing -/

theorem State.beginFrame_exchange (s : State) (o : Owner) :
    (s.beginFrame o).sched.exchange = some (openedExchange o (s.offeredFrame o)) := by
  cases o <;> rfl

/-- The slot after one of phase `p` (R9). -/
theorem State.nextSlot_inSlot (s : State) (p : Nat) :
    (s.inSlot p).nextSlot (if p + 1 < s.ctl.count then p + 1 else 0) := .inr ⟨0, p, rfl, rfl, rfl⟩

/-- Settles O15: the rules in their order, and the slot at the own rank, where a choice opens an exchange and without
one the turn passes. -/
theorem schedulerChoosesByFiveRules : Obligations.SchedulerChoosesByFiveRules := by
  intro s
  refine ⟨fun i => ⟨s.offersCancel_iff i, s.offersFrame_iff i⟩,
    fun p i => ⟨turnPlace_succ_self p, turnPlace_self p, turnPlace_succ p i⟩, State.choose_announce, fun ha =>
    ⟨fun i hm h => State.choose_reoffered ha (State.reoffered_some hm h), fun hn => ?_⟩, fun h hi hs hm ho hy hp => ?_⟩
  · have hr := State.reoffered_none hn
    refine ⟨fun i hi hmin => State.choose_cancel ha hr (find?_roundRobin_first hi hmin), fun hc => ⟨fun i hi hmin => ?_,
      State.choose_beacon ha hr hc⟩⟩
    exact State.choose_frame ha hr hc (find?_roundRobin_first hi hmin)
  · have hrun : exec .slotStart s = .next (s.inSlot s.ctl.rank).turn := by
      rw [exec_slotStart_counted h hi hs hm hp, if_pos (State.mayBegin_rank ho hy)]
    rw [hrun]
    refine ⟨fun hx o hc => ⟨_, openedExchange o ((s.inSlot s.ctl.rank).offeredFrame o), rfl, ?_, rfl⟩, fun hpass => ?_⟩
    · rw [State.turn_begins (s := s.inSlot s.ctl.rank) hx hc]
      exact State.beginFrame_exchange _ o
    · have hpasses : (s.inSlot s.ctl.rank).turn = s.inSlot s.ctl.rank :=
        State.turn_passes (hpass.imp_left Option.isSome_iff_ne_none.mpr)
      rw [hpasses]
      exact ⟨_, rfl, rfl, s.nextSlot_inSlot s.ctl.rank⟩

end Sys2Proof.Machine
end

section
/-! What one lane may become in a move of its own, and that its accesses stay inside buffer memory (R77 to R95). -/

namespace Sys2Proof.Machine

variable {l m k : Lane} {i : Fin 8} {st : Status}

/-! ### Lanes whose accesses are inside -/

/-- A lane has a frame on offer, in its exchange or held, or a cancel (Table 5.2). -/
def Lane.hasFrame (l : Lane) : Prop :=
  l.state = .queued ∨ l.state = .exchange ∨ l.state = .held ∨ l.state = .cancelling

theorem Lane.not_hasFrame (h : l.state = .working ∨ l.state = .reporting ∨ l.state = .waiting ∨ l.state = .idle) :
    ¬l.hasFrame := by
  rintro (hf | hf | hf | hf) <;> rw [hf] at h <;> simp at h

/-- A lane at work on the descriptor of another: the same address, copy and validation, and the same event held. -/
structure Lane.SameDescriptor (m l : Lane) : Prop where
  address : m.address = l.address
  copy : m.copy = l.copy
  validated : m.validated = l.validated
  heldEvent : m.heldEvent = l.heldEvent

/-- What validation gives belongs to the copy (R78). -/
theorem Lane.copyInside_congr (hc : m.copy = l.copy) : m.copyInside ↔ l.copyInside := by
  simp only [Lane.copyInside, Lane.kind, Lane.length, Lane.bufferAddress, hc]

/-- At work on the same descriptor the accesses stay inside, where the new work is inside and a frame has a validated
copy. -/
theorem Lane.accessesInside_of_same (h : l.accessesInside) (hm : m.SameDescriptor l)
    (hf : m.hasFrame → m.validated = true) (hj : m.jobInside) : m.accessesInside := by
  obtain ⟨haddress, hcopy, -, -⟩ := h
  refine ⟨by rw [hm.address]; exact haddress, fun hv => ?_, hf, hj⟩
  exact (Lane.copyInside_congr hm.copy).mpr (hcopy (by rw [← hm.validated]; exact hv))

theorem Lane.accessesInside.copy (h : l.accessesInside) (hv : l.validated = true) : l.copyInside := by
  obtain ⟨-, hcopy, -, -⟩ := h
  exact hcopy hv

theorem Lane.accessesInside.validated (h : l.accessesInside) (hf : l.hasFrame) : l.validated = true := by
  obtain ⟨-, -, hframe, -⟩ := h
  exact hframe hf

theorem Lane.accessesInside.job (h : l.accessesInside) : l.jobInside := by
  obtain ⟨-, -, -, hjob⟩ := h
  exact hjob

/-- A fetch begins at a legal address with a copy that is not validated (R77). -/
theorem Lane.fetchAt_inside {a : Nat} (ha : a ≤ Config.lastDescriptor) : (l.fetchAt a).accessesInside :=
  ⟨ha, fun h => (by cases h), fun h => absurd h (Lane.not_hasFrame (.inl rfl)), rfl⟩

/-! ### The segments of a message (R46, R80) -/

/-- A segment that is not past the last has words, and they end inside the message. -/
theorem segmentSize_inside {n i : Nat} (h : 32 * i < n) : 0 < segmentSize n i ∧ 32 * i + segmentSize n i ≤ n := by
  unfold segmentSize
  split <;> omega

theorem lt_segmentCount_iff (n i : Nat) : i < segmentCount n ↔ 32 * i < n := by
  unfold segmentCount
  omega

/-- The payload read of a SEND segment that is not past the last, or of a WRITE, stays inside buffer memory (R80,
R84). -/
theorem Lane.readPayload_inside (hc : l.copyInside)
    (hk : l.kind = some .send ∧ 32 * l.segment < l.length ∨ l.kind = some .write) :
    0 < l.payloadWanted ∧ l.payloadBase + l.payloadWanted ≤ Config.memoryWords := by
  obtain ⟨hsend, hrequest⟩ := hc
  unfold Lane.payloadWanted Lane.payloadBase
  rcases hk with ⟨hk, hseg⟩ | hk
  · obtain ⟨hlen, hend⟩ := hsend hk
    obtain ⟨hpos, hin⟩ := segmentSize_inside hseg
    rw [if_pos hk, if_pos hk]
    exact ⟨hpos, by omega⟩
  · have hne : l.kind ≠ some .send := by rw [hk]; decide
    obtain ⟨hlen, hend⟩ := hrequest (.inr hk)
    rw [if_neg hne, if_neg hne]
    exact ⟨hlen, hend⟩

/-! ### What a lane may become -/

/-- What a lane may become without a wait list: it begins and ends no wait, holds an event only in REPORTING (R92), and
its accesses stay inside buffer memory. -/
structure Lane.Becomes (l m : Lane) : Prop where
  waits : m.state = .waiting ↔ l.state = .waiting
  flag : l.state = .waiting → m.flag = l.flag
  holds : (l.heldEvent.isSome = true → l.state = .reporting) → m.heldEvent.isSome = true → m.state = .reporting
  inside : l.accessesInside → m.accessesInside

theorem Lane.Becomes.refl (l : Lane) : l.Becomes l := ⟨.rfl, fun _ => rfl, id, id⟩

theorem Lane.Becomes.trans (h : l.Becomes m) (hk : m.Becomes k) : l.Becomes k where
  waits := hk.waits.trans h.waits
  flag hl := (hk.flag (h.waits.mpr hl)).trans (h.flag hl)
  holds hl := hk.holds (h.holds hl)
  inside := hk.inside ∘ h.inside

/-- A lane stays in its state. -/
theorem Lane.Becomes.of_staying (hs : m.state = l.state) (hf : m.flag = l.flag) (he : m.heldEvent = l.heldEvent)
    (hi : l.accessesInside → m.accessesInside) : l.Becomes m :=
  ⟨by rw [hs], fun _ => hf, by rw [he, hs]; exact id, hi⟩

/-- A lane goes on from a state in which it neither waits nor reports. -/
theorem Lane.Becomes.of_going (hw : l.state ≠ .waiting) (hr : l.state ≠ .reporting) (hm : m.state ≠ .waiting)
    (he : m.heldEvent = l.heldEvent ∨ m.state = .reporting) (hi : l.accessesInside → m.accessesInside) : l.Becomes m :=
  ⟨⟨fun h => absurd h hm, fun h => absurd h hw⟩, fun h => absurd h hw,
    fun hl => he.elim (fun he h => absurd (hl (he ▸ h)) hr) fun h _ => h, hi⟩

/-- A lane with a frame goes on with the same descriptor. -/
theorem Lane.Becomes.of_frame (hf : l.hasFrame) (hm : m.SameDescriptor l) (hw : m.state ≠ .waiting)
    (hj : l.validated = true → l.copyInside → m.jobInside) : l.Becomes m := by
  refine .of_going ?_ ?_ hw (.inl hm.heldEvent) fun h => ?_
  · rintro hs; exact Lane.not_hasFrame (.inr (.inr (.inl hs))) hf
  · rintro hs; exact Lane.not_hasFrame (.inr (.inl hs)) hf
  · have hv := h.validated hf
    exact Lane.accessesInside_of_same h hm (fun _ => hm.validated.trans hv) (hj hv (h.copy hv))

/-- A lane at work goes on with the same descriptor. -/
theorem Lane.Becomes.of_working (hs : l.state = .working) (hm : m.SameDescriptor l) (hw : m.state ≠ .waiting)
    (hi : l.accessesInside → (m.hasFrame → l.validated = true) ∧ m.jobInside) : l.Becomes m :=
  .of_going (by simp [hs]) (by simp [hs]) hw (.inl hm.heldEvent) fun h =>
    Lane.accessesInside_of_same h hm (fun hf => hm.validated.trans ((hi h).1 hf)) (hi h).2

/-- A lane at work writes its final status (R90). -/
theorem Lane.finish_becomes (hs : l.state = .working) (hm : m.SameDescriptor l) : l.Becomes (m.finish st) :=
  .of_working hs ⟨hm.address, hm.copy, hm.validated, hm.heldEvent⟩ (by simp) fun _ =>
    ⟨fun hf => absurd hf (Lane.not_hasFrame (.inl rfl)), trivial⟩

/-- A lane with a frame writes its final status (R90). -/
theorem Lane.finish_becomes_frame (hf : l.hasFrame) (hm : m.SameDescriptor l) : l.Becomes (m.finish st) :=
  .of_frame hf ⟨hm.address, hm.copy, hm.validated, hm.heldEvent⟩ (by simp) fun _ _ => trivial

theorem Lane.SameDescriptor.refl (l : Lane) : l.SameDescriptor l := ⟨rfl, rfl, rfl, rfl⟩

/-! ### Outcomes of exchanges -/

theorem Lane.requeue_becomes (hf : l.hasFrame) (hm : m.SameDescriptor l) : l.Becomes m.requeue :=
  .of_frame hf ⟨hm.address, hm.copy, hm.validated, hm.heldEvent⟩ (by simp) fun _ _ => trivial

theorem Lane.oweCancel_becomes (hf : l.hasFrame) (hm : m.SameDescriptor l) : l.Becomes (m.oweCancel st) :=
  .of_frame hf ⟨hm.address, hm.copy, hm.validated, hm.heldEvent⟩ (by simp) fun _ _ => trivial

theorem Lane.stopWork_becomes (hf : l.hasFrame) (hm : m.SameDescriptor l) : l.Becomes m.stopWork := by
  unfold Lane.stopWork
  split
  · exact Lane.oweCancel_becomes hf hm
  · exact Lane.finish_becomes_frame hf hm

theorem Lane.failSend_becomes (hf : l.hasFrame) (hm : m.SameDescriptor l) (stray : Bool) :
    l.Becomes (m.failSend st stray) := by
  unfold Lane.failSend
  split
  · exact Lane.oweCancel_becomes hf hm
  · exact Lane.finish_becomes_frame hf hm

theorem Lane.retry_becomes (hf : l.hasFrame) (hm : m.SameDescriptor l) (hk : l.Becomes k) : l.Becomes (m.retry k) := by
  unfold Lane.retry
  split
  · exact Lane.requeue_becomes hf ⟨hm.address, hm.copy, hm.validated, hm.heldEvent⟩
  · exact hk

theorem Lane.failOffline_becomes (hf : l.hasFrame) : l.Becomes l.failOffline :=
  Lane.finish_becomes_frame hf ⟨rfl, rfl, rfl, rfl⟩

/-- The segment after an accepted one is read next where that was not the last (R80). -/
theorem Lane.nextSegment_becomes (hf : l.hasFrame) (hk : l.kind = some .send) (hn : l.advance.allSent = false) :
    l.Becomes l.advance.nextSegment := by
  have hseg : 32 * (l.segment + 1) < l.length := by
    rw [← lt_segmentCount_iff]
    exact Nat.lt_of_not_le (of_decide_eq_false hn)
  refine .of_frame hf ⟨rfl, rfl, rfl, rfl⟩ (by simp [Lane.nextSegment]) fun hv hc => ?_
  have hc' : l.advance.nextSegment.copyInside := (Lane.copyInside_congr rfl).mpr hc
  exact ⟨hv, Lane.readPayload_inside hc' (.inl ⟨hk, hseg⟩)⟩

theorem Lane.sendReply_becomes (hf : l.hasFrame) (hk : l.kind = some .send) (code : ReplyCode) :
    l.Becomes (l.sendReply code) := by
  have hm : ({ l with lastReply := some code } : Lane).SameDescriptor l := ⟨rfl, rfl, rfl, rfl⟩
  unfold Lane.sendReply
  cases code with
  | accepted =>
    simp only
    split
    · exact Lane.finish_becomes_frame hf ⟨rfl, rfl, rfl, rfl⟩
    · exact Lane.nextSegment_becomes hf hk (Bool.eq_false_iff.mpr ‹_›)
  | busyNoBuffer | busyNoContext | busyPending =>
    simp only
    split
    · exact .of_frame hf ⟨rfl, rfl, rfl, rfl⟩ (by simp) fun _ _ => trivial
    · exact Lane.failSend_becomes hf hm _
  | checkError => exact Lane.retry_becomes hf hm (Lane.failSend_becomes hf hm _)
  | refusedStray =>
    simp only
    split <;> exact Lane.failSend_becomes hf hm _
  | _ => exact Lane.failSend_becomes hf hm _

theorem Lane.sendOutcome_becomes (hf : l.hasFrame) (hk : l.kind = some .send) (o : ExchangeOutcome) :
    l.Becomes (l.sendOutcome o) := by
  cases o with
  | reply code ws => exact Lane.sendReply_becomes hf hk code
  | noReply | badReply =>
    have hm : ({ l with unanswered := true } : Lane).SameDescriptor l := ⟨rfl, rfl, rfl, rfl⟩
    exact Lane.retry_becomes hf hm (Lane.failSend_becomes hf hm _)
  | collision => exact Lane.requeue_becomes hf (.refl l)
  | sent | lineLost => exact .refl l

theorem Lane.sendOutcomeStopped_becomes (hf : l.hasFrame) (o : ExchangeOutcome) :
    l.Becomes (l.sendOutcomeStopped o) := by
  have hstop : l.Becomes l.stopWork := Lane.stopWork_becomes hf (.refl l)
  cases o with
  | reply code ws =>
    simp only [Lane.sendOutcomeStopped]
    repeat' split
    · exact Lane.finish_becomes_frame hf ⟨rfl, rfl, rfl, rfl⟩
    · exact Lane.stopWork_becomes hf ⟨rfl, rfl, rfl, rfl⟩
    · exact hstop
  | _ => exact hstop

/-- An accepted READ stores at most the words that its descriptor asks for (R84). -/
theorem Lane.requestAccepted_becomes (hf : l.hasFrame) (ws : List Word) : l.Becomes (l.requestAccepted ws) := by
  unfold Lane.requestAccepted
  simp only
  split
  · rename_i hk
    have hlen : (ws.take l.length).length ≤ l.length := by simp
    unfold Lane.beginStore
    generalize ws.take l.length = words at hlen
    cases words with
    | nil => exact Lane.finish_becomes_frame hf ⟨rfl, rfl, rfl, rfl⟩
    | cons w rest =>
      refine .of_frame hf ⟨rfl, rfl, rfl, rfl⟩ (by simp) fun hv hc => ?_
      have hend : l.bufferAddress + l.length ≤ Config.memoryWords := (hc.2 (.inl hk)).2
      show l.bufferAddress + 0 + (w :: rest).length ≤ Config.memoryWords
      omega
  · exact Lane.finish_becomes_frame hf ⟨rfl, rfl, rfl, rfl⟩

theorem Lane.requestOutcome_becomes (hf : l.hasFrame) (o : ExchangeOutcome) : l.Becomes (l.requestOutcome o) := by
  cases o with
  | reply code ws =>
    cases code with
    | accepted => exact Lane.requestAccepted_becomes hf ws
    | checkError =>
      exact Lane.retry_becomes hf ⟨rfl, rfl, rfl, rfl⟩ (Lane.finish_becomes_frame hf ⟨rfl, rfl, rfl, rfl⟩)
    | _ => exact Lane.finish_becomes_frame hf ⟨rfl, rfl, rfl, rfl⟩
  | noReply | badReply => exact Lane.retry_becomes hf (.refl l) (Lane.finish_becomes_frame hf (.refl l))
  | collision => exact Lane.requeue_becomes hf (.refl l)
  | sent | lineLost => exact .refl l

theorem Lane.requestOutcomeStopped_becomes (hf : l.hasFrame) (o : ExchangeOutcome) :
    l.Becomes (l.requestOutcomeStopped o) := by
  have hstop : l.Becomes (l.finish .stopped) := Lane.finish_becomes_frame hf (.refl l)
  cases o with
  | reply code ws =>
    simp only [Lane.requestOutcomeStopped]
    split
    · exact Lane.requestAccepted_becomes hf ws
    · exact hstop
  | _ => exact hstop

theorem Lane.broadcastOutcome_becomes (hf : l.hasFrame) (o : ExchangeOutcome) : l.Becomes (l.broadcastOutcome o) := by
  have hfinish (st : Status) : l.Becomes (l.finish st) := Lane.finish_becomes_frame hf (.refl l)
  cases o with
  | sent => exact hfinish .done
  | collision =>
    simp only [Lane.broadcastOutcome]
    split
    · exact hfinish .stopped
    · exact Lane.requeue_becomes hf (.refl l)
  | noReply =>
    simp only [Lane.broadcastOutcome]
    split
    · exact hfinish .stopped
    · exact Lane.retry_becomes hf (.refl l) (hfinish .noAnswer)
  | _ =>
    simp only [Lane.broadcastOutcome]
    split
    · exact hfinish .stopped
    · exact .refl l

/-- Everything an outcome makes of a lane with a frame (R69, R80 to R86, R94, R95). -/
theorem Lane.takeOutcome_becomes (hf : l.hasFrame) (o : ExchangeOutcome) : l.Becomes (l.takeOutcome o) := by
  unfold Lane.takeOutcome
  split
  · exact Lane.failOffline_becomes hf
  split
  · unfold Lane.cancelOutcome
    split
    · exact .of_frame hf ⟨rfl, rfl, rfl, rfl⟩ (by simp) fun _ _ => trivial
    · exact Lane.finish_becomes_frame hf ⟨rfl, rfl, rfl, rfl⟩
  split
  · split
    · exact Lane.sendOutcomeStopped_becomes hf o
    · exact Lane.sendOutcome_becomes hf ‹_› o
  · repeat' split
    · exact Lane.broadcastOutcome_becomes hf o
    · exact Lane.requestOutcomeStopped_becomes hf o
    · exact Lane.requestOutcome_becomes hf o
  · split
    · exact Lane.requestOutcomeStopped_becomes hf o
    · exact Lane.requestOutcome_becomes hf o
  · split
    · exact Lane.requestOutcomeStopped_becomes hf o
    · exact Lane.requestOutcome_becomes hf o
  all_goals exact .refl l

/-- A chosen lane goes to EXCHANGE (R62). -/
theorem Lane.chosen_becomes (hf : l.hasFrame) : l.Becomes l.chosen :=
  .of_frame hf ⟨rfl, rfl, rfl, rfl⟩ (by simp [Lane.chosen]) fun _ _ => trivial

/-! ### Stops and line loss -/

theorem Lane.stop_becomes (l : Lane) : l.Becomes l.stop := by
  have hmark : l.Becomes { l with stopMark := true } := .of_staying rfl rfl rfl id
  unfold Lane.stop
  simp only
  split
  · exact .of_staying rfl rfl rfl id
  · exact Lane.stopWork_becomes (.inl ‹_›) ⟨rfl, rfl, rfl, rfl⟩
  · exact Lane.stopWork_becomes (.inr (.inr (.inl ‹_›))) ⟨rfl, rfl, rfl, rfl⟩
  · exact .refl l
  all_goals exact hmark

theorem Lane.lineLoss_becomes (l : Lane) : l.Becomes l.lineLoss := by
  rcases l.lineLoss_cases with h | ⟨h, -, hs⟩ <;> rw [h]
  · exact .refl l
  · rcases hs with hs | hs | hs | ⟨hs, -⟩
    · exact Lane.failOffline_becomes (.inl hs)
    · exact Lane.failOffline_becomes (.inr (.inr (.inr hs)))
    · exact Lane.failOffline_becomes (.inr (.inr (.inl hs)))
    · exact Lane.finish_becomes hs ⟨rfl, rfl, rfl, rfl⟩

/-! ### Events and paths (R91, R92) -/

theorem Lane.takePath_inside (h : l.accessesInside) : (l.takePath i st).accessesInside := by
  rcases l.takePath_cases i st with ⟨r, hp⟩ | ⟨a, ha, hp⟩ <;> rw [hp]
  · exact ⟨h.1, h.copy, fun hf => absurd hf (Lane.not_hasFrame (.inr (.inl rfl))), trivial⟩
  · exact Lane.fetchAt_inside ha

/-- After a path of R91 a lane is at work with the event it held, or reports. -/
theorem Lane.takePath_state (l : Lane) (i : Fin 8) (st : Status) :
    (l.takePath i st).state = .working ∧ (l.takePath i st).heldEvent = l.heldEvent ∨
      (l.takePath i st).state = .reporting := by
  rcases l.takePath_cases i st with ⟨r, hp⟩ | ⟨a, -, hp⟩ <;> rw [hp]
  · exact .inr rfl
  · exact .inl ⟨rfl, rfl⟩

/-- A lane that has reported goes on without its event (R92). -/
theorem Lane.eventTaken_becomes (hs : l.state = .reporting) : l.Becomes (l.eventTaken i) := by
  have hwait : l.state ≠ .waiting := by simp [hs]
  have going (m : Lane) (hm : m.state ≠ .waiting) (he : m.heldEvent = none ∨ m.state = .reporting)
      (hi : l.accessesInside → m.accessesInside) : l.Becomes m :=
    ⟨⟨fun h => absurd h hm, fun h => absurd h hwait⟩, fun h => absurd h hwait,
      fun _ h => he.elim (fun he => by rw [he] at h; cases h) id, hi⟩
  have taken (m : Lane) (ha : m.address = l.address) (hc : m.copy = l.copy) (hv : m.validated = l.validated)
      (hm : ¬m.hasFrame) (hj : l.jobInside → m.jobInside) (h : l.accessesInside) : m.accessesInside :=
    ⟨by rw [ha]; exact h.1, fun hv' => (Lane.copyInside_congr hc).mpr (h.copy (hv ▸ hv')), fun hf => absurd hf hm,
      hj h.job⟩
  unfold Lane.eventTaken
  simp only
  split
  · exact going _ (by simp) (.inl rfl) (taken _ rfl rfl rfl (Lane.not_hasFrame (.inl rfl)) fun _ => trivial)
  · rename_i st hj
    refine going _ ?_ ?_ fun h => Lane.takePath_inside (taken _ rfl rfl rfl (Lane.not_hasFrame (.inl rfl)) id h)
    · rcases Lane.takePath_state { l with heldEvent := none, state := .working } i st with ⟨h, -⟩ | h <;>
        rw [h] <;> simp
    · exact (Lane.takePath_state { l with heldEvent := none, state := .working } i st).imp (fun h => h.2) id
  · exact going _ (by simp) (.inl rfl)
      (taken _ rfl rfl rfl (Lane.not_hasFrame (.inr (.inr (.inr rfl)))) fun _ => trivial)
  all_goals exact going _ (by simp) (.inl rfl) (taken _ rfl rfl rfl (Lane.not_hasFrame (.inl rfl)) id)

/-! ### Word accesses (R77 to R80, R84, R90) -/

/-- One word of the fetch: the copy is not validated before the last (R77). -/
theorem Lane.fetchedWord_becomes {n : Fin 8} (hs : l.state = .working) (hj : l.job = .fetch n) (w : Word) :
    l.Becomes (l.fetchedWord n w) := by
  refine .of_going (by simp [hs]) (by simp [hs]) (by simp [Lane.fetchedWord, hs]) (.inl rfl) fun h => ?_
  obtain ⟨ha, -, -, hjob⟩ := h
  have hv : l.validated = false := by simpa only [Lane.jobInside, hj] using hjob
  refine ⟨ha, fun h => ?_, fun hf => absurd hf (Lane.not_hasFrame (.inl hs)), ?_⟩
  · rw [show (l.fetchedWord n w).validated = l.validated from rfl, hv] at h
    cases h
  · unfold Lane.jobInside Lane.fetchedWord
    by_cases hn : n = 7
    · simp [hn]
    · simpa [hn] using hv

/-- What validation lets through names a range of buffer memory (R78). -/
theorem Lane.copyInside_of_not_bad {c : StationController} (h : l.bad c = false) : l.copyInside := by
  unfold Lane.bad at h
  refine ⟨fun hk => ?_, fun hk => ?_⟩
  · simp only [hk, Bool.or_eq_false_iff, decide_eq_false_iff_not] at h
    omega
  · rcases hk with hk | hk <;> simp only [hk, Bool.or_eq_false_iff, decide_eq_false_iff_not] at h <;> omega

/-- A valid descriptor begins its work (R79, R86 to R89). -/
theorem Lane.start_becomes (hs : l.state = .working) (hv : l.validated = true) (active absent : Bool) :
    l.Becomes (l.start i active absent) := by
  have offers (m : Lane) (hm : m.SameDescriptor l) (f : PreparedFrame) : l.Becomes (m.offer f) :=
    .of_working hs ⟨hm.address, hm.copy, hm.validated, hm.heldEvent⟩ (by simp) fun _ => ⟨fun _ => hv, trivial⟩
  have works {m : Lane} (hm : m.SameDescriptor l) (hstate : m.state = .working)
      (hi : l.copyInside → m.jobInside) : l.Becomes m :=
    .of_working hs hm (by simp [hstate]) fun h =>
      ⟨fun hf => absurd hf (Lane.not_hasFrame (.inl hstate)), hi (h.copy hv)⟩
  unfold Lane.start
  split
  · exact Lane.finish_becomes hs (.refl l)
  split
  · exact Lane.finish_becomes hs (.refl l)
  split <;> rename_i hk
  · refine works ⟨rfl, rfl, rfl, rfl⟩ hs fun hc => ⟨hv, ?_⟩
    exact Lane.readPayload_inside (l := l.startSend) ((Lane.copyInside_congr rfl).mpr hc) (.inl ⟨hk, (hc.1 hk).1⟩)
  · exact offers l.passStart ⟨rfl, rfl, rfl, rfl⟩ _
  · refine works ⟨rfl, rfl, rfl, rfl⟩ hs fun hc => ⟨hv, ?_⟩
    exact Lane.readPayload_inside (l := { l.passStart with job := .readPayload [] })
      ((Lane.copyInside_congr rfl).mpr hc) (.inr hk)
  · split
    · exact offers { l with retries := 3 } ⟨rfl, rfl, rfl, rfl⟩ _
    · exact offers l.passStart ⟨rfl, rfl, rfl, rfl⟩ _
  · exact works ⟨rfl, rfl, rfl, rfl⟩ hs fun _ => trivial
  · exact works ⟨rfl, rfl, rfl, rfl⟩ hs fun _ => trivial
  · exact .of_going (by simp [hs]) (by simp [hs]) (by simp) (.inr rfl) fun h =>
      ⟨h.1, h.copy, fun hf => absurd hf (Lane.not_hasFrame (.inr (.inl rfl))), trivial⟩
  · exact Lane.finish_becomes hs (.refl l)

/-- The lane after its fetch, before its copy has passed validation and, with `v`, after it (R77, R78). -/
def Lane.judged (l : Lane) (v : Bool) : Lane := { l with lastReply := none, segment := 0, validated := v }

theorem Lane.judged_becomes {v : Bool} (hs : l.state = .working) (hj : l.job = .markInProgress)
    (hv : v = true → l.copyInside) : l.Becomes (l.judged v) := by
  refine .of_going (by simp [hs]) (by simp [hs]) (by simp [Lane.judged, hs]) (.inl rfl) fun h =>
    ⟨h.1, fun h => ?_, fun hf => absurd hf (Lane.not_hasFrame (.inl hs)), ?_⟩
  · exact (Lane.copyInside_congr rfl).mp (hv h)
  · simp [Lane.jobInside, Lane.judged, hj]

/-- After the fetch the copy is judged and started (R77 to R79, R94). -/
theorem Lane.fetched_becomes (hs : l.state = .working) (hj : l.job = .markInProgress) (c : StationController)
    (absent : Bool) : l.Becomes (l.fetched i c absent) := by
  have hfinish (st : Status) : l.Becomes ((l.judged false).finish st) :=
    (Lane.judged_becomes hs hj (by simp)).trans (Lane.finish_becomes hs (.refl _))
  unfold Lane.fetched
  simp only
  split
  · exact hfinish .stopped
  split
  · exact hfinish .badDescriptor
  · rename_i hb
    have hcopy : (l.judged false).copyInside := Lane.copyInside_of_not_bad (Bool.eq_false_iff.mpr hb)
    exact (Lane.judged_becomes hs hj fun _ => hcopy).trans (Lane.start_becomes (l := l.judged true) hs rfl _ _)

/-- One word of the payload read (R80, R84). -/
theorem Lane.payloadWord_becomes {got : List Word} (hs : l.state = .working) (hj : l.job = .readPayload got)
    (w : Word) : l.Becomes (l.payloadWord got w) := by
  have frame {m : Lane} (hm : m.SameDescriptor l) (hw : m.state ≠ .waiting) (hjob : m.jobInside) : l.Becomes m :=
    .of_working hs hm hw fun h => ⟨fun _ => by
      have hgot := h.job
      simp only [Lane.jobInside, hj] at hgot
      exact hgot.1, hjob⟩
  unfold Lane.payloadWord
  simp only
  split
  · unfold Lane.payloadRead
    repeat' split
    · unfold Lane.stopWork
      split
      · exact frame ⟨rfl, rfl, rfl, rfl⟩ (by simp) trivial
      · exact Lane.finish_becomes hs (.refl l)
    · exact frame ⟨rfl, rfl, rfl, rfl⟩ (by simp) trivial
    · exact frame ⟨rfl, rfl, rfl, rfl⟩ (by simp) trivial
  · rename_i hlen
    refine .of_working hs ⟨rfl, rfl, rfl, rfl⟩ (by simp [hs]) fun h =>
      ⟨fun hf => absurd hf (Lane.not_hasFrame (.inl hs)), ?_⟩
    have hgot := h.job
    simp only [Lane.jobInside, hj] at hgot
    obtain ⟨hv, -, hend⟩ := hgot
    exact ⟨hv, Nat.lt_of_not_le hlen, hend⟩

/-- One word of a read-data store (R84). -/
theorem Lane.storedWord_becomes {offset : Nat} {w : Word} {rest : List Word} (hs : l.state = .working)
    (hj : l.job = .storeRead offset (w :: rest)) : l.Becomes (l.storedWord offset rest) := by
  unfold Lane.storedWord
  split
  · exact Lane.finish_becomes hs (.refl l)
  · refine .of_working hs ⟨rfl, rfl, rfl, rfl⟩ (by simp [hs]) fun h =>
      ⟨fun hf => absurd hf (Lane.not_hasFrame (.inl hs)), ?_⟩
    have hjob := h.job
    simp only [Lane.jobInside, hj, List.length_cons] at hjob
    show l.bufferAddress + (offset + 1) + rest.length ≤ Config.memoryWords
    omega

/-- The progress is written, the status is next (R90). -/
theorem Lane.writeStatus_becomes (hs : l.state = .working) : l.Becomes { l with job := .writeStatus st } :=
  .of_working hs ⟨rfl, rfl, rfl, rfl⟩ (by simp [hs]) fun _ =>
    ⟨fun hf => absurd hf (Lane.not_hasFrame (.inl hs)), trivial⟩

/-- The status is written: the lane reports, or takes its path (R90, R91). -/
theorem Lane.statusWritten_becomes (hs : l.state = .working) : l.Becomes (l.statusWritten i st) := by
  have hwait : l.state ≠ .waiting := by simp [hs]
  have hreport : l.state ≠ .reporting := by simp [hs]
  unfold Lane.statusWritten
  simp only
  split
  · exact .of_going hwait hreport (by simp) (.inr rfl) fun h =>
      ⟨h.1, h.copy, fun hf => absurd hf (Lane.not_hasFrame (.inr (.inl rfl))), trivial⟩
  · refine .of_going hwait hreport ?_ ?_ fun h => Lane.takePath_inside (l := { l with lineWork := false }) h
    · rcases Lane.takePath_state { l with lineWork := false } i st with ⟨h, -⟩ | h <;> rw [h] <;> simp
    · exact (Lane.takePath_state { l with lineWork := false } i st).imp And.right id

/-- A lane begins a chain at a legal address (R76). -/
theorem Lane.started_becomes {a : Nat} (hs : l.state = .idle) (ha : a ≤ Config.lastDescriptor) :
    l.Becomes (l.started a) :=
  ⟨by simp [Lane.started, hs], fun h => (by rw [hs] at h; cases h), fun _ h => (by simp [Lane.started] at h),
    fun _ => Lane.fetchAt_inside ha⟩

end Sys2Proof.Machine
end

section
/-! What every move keeps: the lanes in their places (R62, R92, R98), the receive unit consistent (R109 to R121), the
windows inside buffer memory, and the accesses of the lanes inside it (R78, R111, R131, R133). -/

namespace Sys2Proof.Machine

variable {s t u : State} {i : Fin 8}

/-- The accesses of every lane lie inside buffer memory. -/
def State.lanesInside (s : State) : Prop := ∀ i : Fin 8, s.lanes[i].accessesInside

theorem State.lanesPlaced.waiters (h : s.lanesPlaced) : s.waitersListed := by
  obtain ⟨hw, -, -⟩ := h
  exact hw

theorem State.lanesPlaced.holders (h : s.lanesPlaced) : s.holdersReport := by
  obtain ⟨-, hh, -⟩ := h
  exact hh

theorem State.lanesPlaced.owner (h : s.lanesPlaced) : s.ownerInExchange := by
  obtain ⟨-, -, ho⟩ := h
  exact ho

/-- `t` keeps each condition that `s` meets. -/
structure State.Follows (s t : State) : Prop where
  placed : s.lanesPlaced → t.lanesPlaced
  inside : s.lanesPlaced → s.lanesInside → t.lanesInside
  receive : s.receiveConsistent → t.receiveConsistent
  windows : s.windowsInside → t.windowsInside

theorem State.Follows.refl (s : State) : s.Follows s := ⟨id, fun _ => id, id, id⟩

theorem State.Follows.trans (h : s.Follows t) (k : t.Follows u) : s.Follows u where
  placed := k.placed ∘ h.placed
  inside hp := k.inside (h.placed hp) ∘ h.inside hp
  receive := k.receive ∘ h.receive
  windows := k.windows ∘ h.windows

/-- A lane that becomes another waits on the same flag. -/
theorem Lane.Becomes.waitsOn {l m : Lane} (h : l.Becomes m) (f : Fin 32) :
    m.state = .waiting ∧ m.flag = f ↔ l.state = .waiting ∧ l.flag = f := by
  refine ⟨fun ⟨hw, hf⟩ => ?_, fun ⟨hw, hf⟩ => ⟨h.waits.mpr hw, (h.flag hw).trans hf⟩⟩
  have hl := h.waits.mp hw
  exact ⟨hl, (h.flag hl).symm.trans hf⟩

/-! ### What the conditions read -/

/-- What the conditions on the lanes read of a state. -/
structure State.SameLanes (s t : State) : Prop where
  lanes : t.lanes = s.lanes
  lists : t.flags.lists = s.flags.lists
  owner : t.sched.exchange.map ExchangeRecord.owner = s.sched.exchange.map ExchangeRecord.owner

/-- What the conditions on the line-side units read of a state. -/
structure State.SameUnits (s t : State) : Prop where
  contexts : t.recv.contexts = s.recv.contexts
  posted : ∀ p : Fin 16, t.recv.ports[p].posted = s.recv.ports[p].posted
  take : t.mem.take.map LineTake.work = s.mem.take.map LineTake.work
  windows : ∀ w : Fin 8, t.windows[w].definition = s.windows[w].definition

theorem State.timesListed_congr (h : t.flags.lists = s.flags.lists) (i : Fin 8) (f : Fin 32) :
    t.timesListed i f = s.timesListed i f := by
  rw [State.timesListed, State.timesListed, h]

/-- Every lane waits as before, where the lists stay. -/
theorem State.waitersListed_of_becomes (h : s.waitersListed) (hl : t.flags.lists = s.flags.lists)
    (hb : ∀ i : Fin 8, s.lanes[i].Becomes t.lanes[i]) : t.waitersListed := by
  intro i f
  rw [State.timesListed_congr hl, h i f]
  exact if_congr ((hb i).waitsOn f).symm rfl rfl

/-- The owner of the open exchange stays in EXCHANGE, where the owner is the same. -/
theorem State.ownerInExchange_of_same (h : s.ownerInExchange)
    (ho : t.sched.exchange.map ExchangeRecord.owner = s.sched.exchange.map ExchangeRecord.owner)
    (hx : ∀ i : Fin 8, s.lanes[i].state = .exchange → t.lanes[i].state = .exchange) : t.ownerInExchange := by
  intro x hopen i hi
  have howner : s.sched.exchange.map ExchangeRecord.owner = some (.lane i) := by rw [← ho, hopen, ← hi]; rfl
  obtain ⟨y, hy, hyi⟩ := Option.map_eq_some_iff.mp howner
  exact hx i (h y hy i hyi)

theorem State.holdersReport_of_becomes (h : s.holdersReport) (hb : ∀ i : Fin 8, s.lanes[i].Becomes t.lanes[i]) :
    t.holdersReport := fun i => (hb i).holds (h i)

/-- The conditions on the receive unit, between states that agree in what they read. -/
theorem State.SameUnits.receiveConsistent (h : s.SameUnits t) (hs : s.receiveConsistent) : t.receiveConsistent := by
  obtain ⟨hposted, hopen, hkeys, hfits⟩ := hs
  refine ⟨fun p b hb => hposted p b (h.posted p ▸ hb), by rw [h.contexts]; exact hopen, by rw [h.contexts]; exact hkeys,
    fun k rest j c opens hk hw => ?_⟩
  have hwork : s.mem.take.map LineTake.work = some k.work := by rw [← h.take, hk]; rfl
  obtain ⟨k', hk', he⟩ := Option.map_eq_some_iff.mp hwork
  have := hfits k' rest j c opens hk' (he.trans hw)
  simpa only [ReceiveUnit.storeFits, h.contexts, h.posted] using this

theorem State.SameUnits.windowsInside (h : s.SameUnits t) (hs : s.windowsInside) : t.windowsInside := by
  intro w
  have hd := Window.eq_of_definition (h.windows w)
  rw [hd]
  exact hs w

/-! ### Moves of the lanes -/

/-- What a lane may become while the owner of the exchange stays: beside what it may become, an EXCHANGE goes on. -/
structure Lane.MovesTo (l m : Lane) : Prop extends Lane.Becomes l m where
  exchange : l.state = .exchange → m.state = .exchange

theorem Lane.MovesTo.refl (l : Lane) : l.MovesTo l := ⟨.refl l, id⟩

theorem Lane.Becomes.moves {l m : Lane} (h : l.Becomes m) (hl : l.state ≠ .exchange) : l.MovesTo m :=
  ⟨h, fun hx => absurd hx hl⟩

/-- The lanes become others with their lists as they are, and the exchange has its owner in EXCHANGE. -/
theorem State.Follows.of_becomes (hl : t.flags.lists = s.flags.lists)
    (hb : s.lanesPlaced → ∀ i : Fin 8, s.lanes[i].Becomes t.lanes[i]) (ho : s.lanesPlaced → t.ownerInExchange)
    (hr : s.receiveConsistent → t.receiveConsistent) (hw : s.windowsInside → t.windowsInside) : s.Follows t where
  placed h := ⟨State.waitersListed_of_becomes h.waiters hl (hb h), State.holdersReport_of_becomes h.holders (hb h),
    ho h⟩
  inside hp h i := (hb hp i).inside (h i)
  receive := hr
  windows := hw

/-- The lanes move on their own; lists, owner and units stay. -/
theorem State.Follows.of_lanes (hl : t.flags.lists = s.flags.lists)
    (ho : t.sched.exchange.map ExchangeRecord.owner = s.sched.exchange.map ExchangeRecord.owner) (hu : s.SameUnits t)
    (hm : s.lanesPlaced → ∀ i : Fin 8, s.lanes[i].MovesTo t.lanes[i]) : s.Follows t :=
  .of_becomes hl (fun h i => (hm h i).toBecomes)
    (fun h => State.ownerInExchange_of_same h.owner ho fun i => (hm h i).exchange) hu.receiveConsistent hu.windowsInside

/-- The line-side units stay. -/
theorem State.SameUnits.of_eq (hr : t.recv = s.recv) (hm : t.mem = s.mem) (hw : t.windows = s.windows) :
    s.SameUnits t :=
  ⟨by rw [hr], fun _ => by rw [hr], by rw [hm], fun _ => by rw [hw]⟩

/-- What no condition reads changes. -/
theorem State.Follows.of_same (hl : s.SameLanes t) (hu : s.SameUnits t) : s.Follows t :=
  .of_lanes hl.lists hl.owner hu fun _ i => by rw [hl.lanes]; exact .refl _

/-- One lane moves on its own. -/
theorem State.Follows.setLane {m : Lane} (hm : s.lanesPlaced → s.lanes[i].MovesTo m) : s.Follows (s.setLane i m) := by
  refine .of_lanes rfl rfl (.of_eq rfl rfl rfl) fun h j => ?_
  rw [State.lanes_setLane_get]
  split
  · subst_vars; exact hm h
  · exact .refl _

/-- Every lane moves on its own. -/
theorem State.Follows.mapLanes {f : Fin 8 → Lane → Lane} (hm : ∀ i : Fin 8, s.lanes[i].MovesTo (f i s.lanes[i])) :
    s.Follows (s.mapLanes f) :=
  .of_lanes rfl rfl (.of_eq rfl rfl rfl) fun _ i => by rw [State.lanes_mapLanes_get]; exact hm i

/-- A lane at work moves on. -/
theorem State.Follows.working {m : Lane} (hs : s.lanes[i].state = .working) (hb : s.lanes[i].Becomes m) :
    s.Follows (s.setLane i m) := .setLane fun _ => hb.moves fun hx => by rw [hs] at hx; cases hx

/-! ### The event queue -/

/-- A take of the event queue (R153): the reporting lane goes on without its event. -/
theorem State.take_follows (h : s.take = some t) : s.Follows t := by
  obtain ⟨-, -, hsched, -, hmem, -, -, hcontexts, -, -, hflags, -⟩ := State.take_frame h
  have hposted (p : Fin 16) : t.recv.ports[p].posted = s.recv.ports[p].posted := by
    obtain ⟨-, hp, -⟩ := State.take_port h p
    exact hp
  refine .of_lanes (by rw [hflags]) (by rw [hsched])
    ⟨hcontexts, hposted, by rw [hmem], State.take_window h⟩ fun hp j => ?_
  obtain ⟨pos, e, u, -, -, hr, rfl⟩ := State.take_cases h
  rw [State.enqueue_lanes]
  rcases State.report_lanes hr with ⟨i, -, he, hlanes⟩ | hlanes
  · have hreports : s.lanes[i].state = .reporting := hp.holders i (by rw [he]; rfl)
    have hlane : u.lanes[j] = if j = i then s.lanes[i].eventTaken i else s.lanes[j] := by
      rw [hlanes]
      exact s.lanes_setLane_get i j _
    rw [hlane]
    split
    · subst_vars; exact (Lane.eventTaken_becomes hreports).moves fun hx => by rw [hreports] at hx; cases hx
    · exact .refl _
  · rw [hlanes]; exact .refl _

theorem State.fill_follows (s : State) : s.Follows s.fill :=
  State.fill_induction (P := s.Follows) s (.refl s) fun _ _ hu hv => hu.trans (State.take_follows hv)

theorem State.Follows.fill (h : s.Follows t) : s.Follows t.fill := h.trans t.fill_follows

/-! ### The receive unit -/

/-- The posted buffers and the open contexts of a receive unit are as R109 to R114 have them. -/
structure ReceiveUnit.consistent (r : ReceiveUnit) : Prop where
  posted : ∀ p : Fin 16, ∀ b ∈ r.ports[p].posted, b.inside
  contexts : ∀ i : Fin 12, ∀ c, r.contexts[i] = some c → c.consistent
  keys : ∀ i j : Fin 12, ∀ c d, r.contexts[i] = some c → r.contexts[j] = some d →
    c.source = d.source → c.lane = d.lane → i = j

theorem State.receiveConsistent_iff (s : State) : s.receiveConsistent ↔ s.recv.consistent ∧ s.takeFits :=
  ⟨fun ⟨hposted, hcontexts, hkeys, hfits⟩ => ⟨⟨hposted, hcontexts, hkeys⟩, hfits⟩,
    fun ⟨⟨hposted, hcontexts, hkeys⟩, hfits⟩ => ⟨hposted, hcontexts, hkeys, hfits⟩⟩

theorem State.receiveConsistent.unit (h : s.receiveConsistent) : s.recv.consistent :=
  ((State.receiveConsistent_iff s).mp h).1

/-- Contexts that close, restart their timers or stay, and posted buffers that go, stay or lie inside buffer memory,
keep a receive unit consistent. -/
theorem ReceiveUnit.consistent_of_fewer {r v : ReceiveUnit} (h : r.consistent)
    (hp : ∀ p : Fin 16, ∀ b ∈ v.ports[p].posted, b ∈ r.ports[p].posted ∨ b.inside)
    (hc : ∀ i : Fin 12, ∀ c, v.contexts[i] = some c → ∃ d age, r.contexts[i] = some d ∧ c = { d with age := age }) :
    v.consistent := by
  obtain ⟨hposted, hopen, hkeys⟩ := h
  refine ⟨fun p b hb => (hp p b hb).elim (hposted p b) id, fun i c hi => ?_, fun i j c d hi hj h1 h2 => ?_⟩
  · obtain ⟨d, age, hd, rfl⟩ := hc i c hi
    exact hopen i d hd
  · obtain ⟨c', age, hc', rfl⟩ := hc i c hi
    obtain ⟨d', age', hd', rfl⟩ := hc j d hj
    exact hkeys i j c' d' hc' hd' h1 h2

theorem ReceiveUnit.segmentStored_context (r : ReceiveUnit) (i j : Fin 12) (c : Context) (opens : Bool) :
    (r.segmentStored i c opens).contexts[j] =
      if j = i then (if c.next = segmentCount c.length then none else some c) else r.contexts[j] := by
  have hcontexts : (if opens then r.takeHead c.port else r).contexts = r.contexts := by cases opens <;> rfl
  unfold ReceiveUnit.segmentStored ReceiveUnit.afterStore
  split <;> rw [ReceiveUnit.contexts_setContext_get]
  · rw [ReceiveUnit.setStream_contexts, ReceiveUnit.complete_contexts, hcontexts]
  · rw [hcontexts]

theorem ReceiveUnit.segmentStored_posted (r : ReceiveUnit) (i : Fin 12) (c : Context) (opens : Bool) (p : Fin 16) :
    ∀ b ∈ (r.segmentStored i c opens).ports[p].posted, b ∈ r.ports[p].posted := by
  have hhead : ∀ b ∈ (if opens then r.takeHead c.port else r).ports[p].posted, b ∈ r.ports[p].posted := by
    cases opens with
    | false => exact fun b hb => hb
    | true =>
      intro b hb
      rw [if_pos rfl, ReceiveUnit.takeHead_ports] at hb
      split at hb
      · subst_vars; exact List.mem_of_mem_tail hb
      · exact hb
  intro b hb
  refine hhead b ?_
  unfold ReceiveUnit.segmentStored at hb
  generalize (if opens then r.takeHead c.port else r) = u at hb ⊢
  unfold ReceiveUnit.afterStore at hb
  split at hb
  · simp only [ReceiveUnit.setContext_ports, ReceiveUnit.setStream_ports] at hb
    rw [ReceiveUnit.ports_complete_get] at hb
    split at hb
    · rename_i hpc; rw [hpc]; exact hb
    · exact hb
  · exact hb

/-- The store of a segment that fits leaves the receive unit consistent (R119, R121). -/
theorem ReceiveUnit.segmentStored_consistent {r : ReceiveUnit} {i : Fin 12} {c : Context} {opens : Bool}
    (h : r.consistent) (hf : r.storeFits i c opens) : (r.segmentStored i c opens).consistent := by
  obtain ⟨hposted, hopen, hkeys⟩ := h
  obtain ⟨hwhole, hentry⟩ := hf
  have hfresh (j : Fin 12) (d : Context) (hj : j ≠ i) (hd : r.contexts[j] = some d) :
      ¬(d.source = c.source ∧ d.lane = c.lane) := by
    cases opens with
    | true =>
      obtain ⟨-, -, hfree⟩ := hentry
      exact hfree j d hd
    | false =>
      obtain ⟨e, he, hsource, hlane, -⟩ := hentry
      exact fun ⟨h1, h2⟩ => hj (hkeys j i d e hd he (h1.trans hsource.symm) (h2.trans hlane.symm))
  refine ⟨fun p b hb => hposted p b (r.segmentStored_posted i c opens p b hb), fun j d hd => ?_,
    fun j k d e hd he h1 h2 => ?_⟩
  · rw [ReceiveUnit.segmentStored_context] at hd
    split at hd
    · split at hd
      · cases hd
      · cases hd; exact hwhole.resolve_left ‹_›
    · exact hopen j d hd
  · rw [ReceiveUnit.segmentStored_context] at hd he
    split at hd <;> split at he
    · subst_vars; rfl
    · split at hd <;> cases hd
      exact absurd ⟨h1.symm, h2.symm⟩ (hfresh k e ‹_› he)
    · split at he <;> cases he
      exact absurd ⟨h1, h2⟩ (hfresh j d ‹_› hd)
    · exact hkeys j k d e hd he h1 h2

/-! ### Line-side takes -/

/-- Everything one word access of a take can do (R161): with no take nothing; otherwise the take goes on with work that
ends as before, or its end follows. -/
theorem State.lineAccess_goesOn (s : State) :
    s.mem.take = none ∧ s.lineAccess = s ∨
      ∃ k work, ∃ m : BufferMemory, s.mem.take = some k ∧
        (∀ rest done, work = .store rest done → ∃ rest', k.work = .store rest' done) ∧
        ((∃ a, s.lineAccess =
            { s with mem := { m with take := some { address := a, work := work, claimed := false } } }) ∨
          s.lineAccess = ({ s with mem := { m with take := none } } : State).takeEnds work) := by
  have goes (m : BufferMemory) (a : Nat) (work : LineWork) :=
    (s.takeGoesOn_cases m a work).imp (fun h => (⟨a, h⟩ : ∃ b, ({ s with mem := m } : State).takeGoesOn a work =
      { s with mem := { m with take := some { address := b, work := work, claimed := false } } })) id
  unfold State.lineAccess
  split
  · exact .inl ⟨‹_›, rfl⟩
  rename_i k hk
  refine .inr ?_
  split <;> rename_i hw
  · rename_i w rest done
    exact ⟨k, .store rest done, _, hk, fun _ _ he => (by cases he; exact ⟨_, hw⟩),
      goes { s.mem with cells := writeCell k.address w s.mem.cells } _ _⟩
  · rename_i n got
    exact ⟨k, .fetch n (got ++ [s.word k.address]), _, hk, fun _ _ he => (by cases he), goes s.mem _ _⟩
  · exact ⟨k, _, _, hk, fun _ _ he => (by cases he; exact ⟨_, hw⟩), goes s.mem _ _⟩
  · exact ⟨k, _, _, hk, fun _ _ he => (by cases he), goes s.mem _ _⟩

/-- With no take in progress a consistent receive unit is all that is asked. -/
theorem State.receiveConsistent_of_idle (ht : s.mem.take = none) (h : s.recv.consistent) : s.receiveConsistent :=
  (State.receiveConsistent_iff s).mpr ⟨h, fun k _ _ _ _ hk => by rw [ht] at hk; cases hk⟩

theorem State.lineAccess_receiveConsistent (h : s.receiveConsistent) : s.lineAccess.receiveConsistent := by
  obtain ⟨hr, hfits⟩ := (State.receiveConsistent_iff s).mp h
  rcases s.lineAccess_goesOn with ⟨-, hs⟩ | ⟨k, work, m, hk, hwork, ⟨a, hs⟩ | hs⟩ <;> rw [hs]
  · exact h
  · refine (State.receiveConsistent_iff _).mpr ⟨hr, fun k' rest i c opens hk' hw => ?_⟩
    cases hk'
    obtain ⟨rest', hw'⟩ := hwork _ _ hw
    exact hfits k rest' i c opens hk hw'
  · refine State.receiveConsistent_of_idle rfl ?_
    match work, hwork with
    | .store rest (.segment i c opens), hwork =>
      obtain ⟨rest', hw'⟩ := hwork _ _ rfl
      exact ReceiveUnit.segmentStored_consistent hr (hfits k rest' i c opens hk hw')
    | .store _ (.window _ _), _ => exact hr
    | .fetch _ _, _ => exact hr

theorem State.SameLanes.lanesPlaced (hl : s.SameLanes t) (h : s.lanesPlaced) : t.lanesPlaced :=
  ⟨State.waitersListed_of_becomes h.waiters hl.lists fun i => by rw [hl.lanes]; exact .refl _,
    State.holdersReport_of_becomes h.holders fun i => by rw [hl.lanes]; exact .refl _,
    State.ownerInExchange_of_same h.owner hl.owner fun i hx => by rw [hl.lanes]; exact hx⟩

theorem State.SameLanes.lanesInside (hl : s.SameLanes t) (h : s.lanesInside) : t.lanesInside := fun i => by
  rw [hl.lanes]
  exact h i

/-- The units change and the lanes stay. -/
theorem State.Follows.of_units (hl : s.SameLanes t) (hr : s.receiveConsistent → t.receiveConsistent)
    (hw : s.windowsInside → t.windowsInside) : s.Follows t := ⟨hl.lanesPlaced, fun _ => hl.lanesInside, hr, hw⟩

/-- The units change and the lanes stay, after a step from `s`. -/
theorem State.Follows.thenUnits (hb : s.Follows t) (hl : t.SameLanes u) (hr : s.receiveConsistent → u.receiveConsistent)
    (hw : t.windowsInside → u.windowsInside) : s.Follows u :=
  ⟨hl.lanesPlaced ∘ hb.placed, fun hp => hl.lanesInside ∘ hb.inside hp, hr, hw ∘ hb.windows⟩

theorem State.windowsInside_congr (hw : ∀ w : Fin 8, t.windows[w].definition = s.windows[w].definition)
    (h : s.windowsInside) : t.windowsInside := fun w => by
  rw [Window.eq_of_definition (hw w)]
  exact h w

theorem State.lineAccess_follows (s : State) : s.Follows s.lineAccess :=
  .of_units (by rw [s.lineAccess_frame]; exact ⟨rfl, rfl, rfl⟩) State.lineAccess_receiveConsistent
    (State.windowsInside_congr s.lineAccess_window)

theorem State.lineAccesses_follows (n : Nat) (s : State) : s.Follows (State.lineAccesses n s) := by
  induction n generalizing s with
  | zero => exact .refl s
  | succ n ih => exact s.lineAccess_follows.trans (ih s.lineAccess)

theorem State.finishTake_follows (s : State) : s.Follows s.finishTake := by
  cases hk : s.mem.take with
  | none => rw [State.finishTake_none hk]; exact .refl s
  | some k =>
    rw [← State.lineAccesses_eq (k.work.remaining + 1) s k hk (by omega) (by omega)]
    exact State.lineAccesses_follows _ s

theorem State.settleTake_follows (s : State) : s.Follows s.settleTake :=
  State.settleTake_induction (P := s.Follows) s s.finishTake_follows fun _ ht => ht.fill

theorem State.servesTake_follows (s : State) (pause : Option Nat) : s.Follows (s.servesTake pause) := by
  cases pause with
  | none => exact s.finishTake_follows
  | some k => exact State.lineAccesses_follows k s

end Sys2Proof.Machine
end

section
/-! The station controller, the receive unit and the flag unit, as steps that keep the conditions (R26 to R28, R98 to
R128). -/

namespace Sys2Proof.Machine

variable {s t : State} {i : Fin 8}

/-! ### Blocks that no condition reads -/

/-- The line, the station controller, the presence table, the event queue and the host port change. -/
theorem State.Follows.beside (s : State) {held : Bool} {x : LineInterface} {c : StationController} {p : PresenceTable}
    {q : EventQueue} {h : HostPort} {b : TimeBase} {cs : List Instr} :
    s.Follows { s with
      resetHeld := held, line := x, ctl := c, presence := p, queue := q, host := h, time := b, pending := cs } :=
  .of_same ⟨rfl, rfl, rfl⟩ (.of_eq rfl rfl rfl)

/-- The scheduler changes its marks, and the open exchange keeps its owner. -/
theorem State.Follows.sched (s : State) {x : Scheduler}
    (hx : x.exchange.map ExchangeRecord.owner = s.sched.exchange.map ExchangeRecord.owner) :
    s.Follows { s with sched := x } := .of_same ⟨rfl, rfl, hx⟩ (.of_eq rfl rfl rfl)

theorem State.Follows.mapExchange (s : State) {f : ExchangeRecord → ExchangeRecord} (hf : ∀ x, (f x).owner = x.owner) :
    s.Follows { s with sched := s.sched.mapExchange f } := by
  refine .sched s ?_
  rw [Scheduler.mapExchange, Option.map_map]
  exact congrArg (fun g => s.sched.exchange.map g) (funext hf)

theorem ExchangeRecord.completed_owner (x : ExchangeRecord) : x.completed.owner = x.owner := by
  unfold ExchangeRecord.completed
  repeat' split
  all_goals rfl

theorem ExchangeRecord.collided_owner (x : ExchangeRecord) : x.collided.owner = x.owner := by
  unfold ExchangeRecord.collided
  split <;> rfl

theorem ExchangeRecord.stuck_owner (x : ExchangeRecord) : x.stuck.owner = x.owner := by
  unfold ExchangeRecord.stuck
  split <;> rfl

theorem ExchangeRecord.takeReply_owner (x : ExchangeRecord) (d : Delivery) : (x.takeReply d).owner = x.owner := by
  unfold ExchangeRecord.takeReply
  repeat' split
  all_goals rfl

/-- A word of buffer memory is written (R158, R160). -/
theorem State.Follows.cells (s : State) {m : BufferMemory} (hm : m.take = s.mem.take) : s.Follows { s with mem := m } :=
  .of_same ⟨rfl, rfl, rfl⟩ ⟨rfl, fun _ => rfl, congrArg _ hm, fun _ => rfl⟩

/-! ### The receive unit with no take in progress -/

theorem ReceiveUnit.abandon_consistent {r : ReceiveUnit} (h : r.consistent) (j : Fin 12) (st : ReceiveStatus) :
    (r.abandon j st).consistent := by
  obtain ⟨hcontexts, -, hports, -⟩ := r.abandon_spec j st
  refine ReceiveUnit.consistent_of_fewer h (fun p b hb => .inl ?_) fun k c hc => ⟨c, c.age, ?_, rfl⟩
  · rw [hports p] at hb
    split at hb
    · split at hb <;> exact hb
    · exact hb
  · rw [hcontexts k] at hc
    split at hc
    · cases hc
    · exact hc

/-- Contexts go and posted buffers stay (R115, R124 to R126). -/
theorem ReceiveUnit.consistent_of_filter {r v : ReceiveUnit} {p : Context → Bool} (h : r.consistent)
    (hc : ∀ i : Fin 12, v.contexts[i] = r.contexts[i].filter p)
    (hp : ∀ q : Fin 16, v.ports[q].posted = r.ports[q].posted) : v.consistent := by
  refine ReceiveUnit.consistent_of_fewer h (fun q b hb => .inl (by rw [← hp q]; exact hb)) fun k c hk =>
    ⟨c, c.age, ?_, rfl⟩
  rw [hc k] at hk
  exact (Option.filter_eq_some_iff.mp hk).1

theorem ReceiveUnit.abandonAll_consistent {r : ReceiveUnit} (h : r.consistent) (st : ReceiveStatus)
    (p : Context → Bool) : (r.abandonAll st p).consistent := by
  obtain ⟨hcontexts, -, -, hports⟩ := r.abandonAll_spec st p
  refine ReceiveUnit.consistent_of_filter h hcontexts fun q => ?_
  obtain ⟨-, hposted, -⟩ := hports q
  exact hposted

/-- The contexts and the posted buffers are all that consistency reads. -/
theorem ReceiveUnit.consistent_congr {r v : ReceiveUnit} (h : r.consistent) (hc : v.contexts = r.contexts)
    (hp : v.ports = r.ports) : v.consistent := by
  obtain ⟨hposted, hcontexts, hkeys⟩ := h
  rw [← hc] at hcontexts hkeys
  rw [← hp] at hposted
  exact ⟨hposted, hcontexts, hkeys⟩

theorem ReceiveUnit.updatePort_consistent {r : ReceiveUnit} (h : r.consistent) (p : Fin 16) (f : Port → Port)
    (hf : ∀ b ∈ (f r.ports[p]).posted, b ∈ r.ports[p].posted ∨ b.inside) : (r.updatePort p f).consistent := by
  refine ReceiveUnit.consistent_of_fewer h (fun q b hb => ?_) fun k c hk => ⟨c, c.age, hk, rfl⟩
  rw [ReceiveUnit.ports_updatePort_get] at hb
  split at hb
  · subst_vars; exact hf b hb
  · exact .inl hb

/-- The receive unit acts with no take in progress. -/
theorem State.Follows.receives {x : ReceiveUnit} (ht : s.mem.take = none) (hx : s.recv.consistent → x.consistent) :
    s.Follows { s with recv := x } :=
  .of_units ⟨rfl, rfl, rfl⟩
    (fun h => State.receiveConsistent_of_idle ht (hx h.unit)) id

theorem State.presenceTakes_follows (h : Header) (ht : s.mem.take = none) : s.Follows (s.presenceTakes h) := by
  rw [State.presenceTakes_eq]
  have hrecv : s.Follows { s with recv := (s.presenceTakes h).recv } := by
    refine .receives ht fun hc => ?_
    rcases s.presenceTakes_recv h with hr | hr <;> rw [hr]
    · exact hc
    · obtain ⟨hcontexts, hports, -⟩ := s.recv.purgeOrder_spec h.source
      exact ReceiveUnit.consistent_of_filter hc hcontexts fun q => (hports q).2
  exact hrecv.trans (.beside _)

/-! ### The station controller -/

theorem State.leaveLine_follows (s : State) (p : Participation) (r : Reason) : s.Follows (s.leaveLine p r) := by
  refine .of_lanes rfl ?_ (.of_eq rfl rfl rfl) fun _ j => ?_
  · rw [State.leaveLine_eq]
    simp only [Option.map_map]
    exact congrArg (fun g => s.sched.exchange.map g) (funext fun _ => rfl)
  · rw [State.leaveLine_lanes_get]
    refine ⟨s.lanes[j].lineLoss_becomes, fun hx => ?_⟩
    rw [Lane.lineLoss_keeps (.inr (Lane.not_stopsAtLoss (.inl hx)))]
    exact hx

/-- Entry to OFFLINE or FAULTED (R27, R28, R126). -/
theorem State.left_follows {p : Participation} {r : Reason}
    (h : t = s.enterOffline r ∧ p = .offline ∨ t = s.enterFaulted r ∧ p = .faulted) : s.Follows t := by
  obtain ⟨x, y, rfl, hcontexts, hports⟩ := State.left_eq h
  refine (s.settleTake_follows.trans (s.settleTake.leaveLine_follows p r)).trans ?_
  have hrecv : (s.settleTake.leaveLine p r).Follows { s.settleTake.leaveLine p r with recv := x } :=
    .receives s.settleTake_take fun hc => ReceiveUnit.consistent_congr
      (ReceiveUnit.abandonAll_consistent hc .offline fun _ => true) hcontexts hports
  exact hrecv.trans (.beside _)

theorem State.enterOffline_follows (s : State) (r : Reason) : s.Follows (s.enterOffline r) :=
  State.left_follows (.inl ⟨rfl, rfl⟩)

theorem State.enterFaulted_follows (s : State) (r : Reason) : s.Follows (s.enterFaulted r) :=
  State.left_follows (.inr ⟨rfl, rfl⟩)

theorem State.drainTest_follows (s : State) : s.Follows s.drainTest := by
  rcases s.drainTest_cases with ⟨h, -⟩ | ⟨h, -⟩ <;> rw [h]
  · exact .refl s
  · exact s.enterOffline_follows .drained

theorem State.observedCollision_follows (s : State) : s.Follows s.observedCollision := by
  rw [State.observedCollision_eq]; exact .beside s

theorem State.stuckNotice_follows (s : State) : s.Follows s.stuckNotice := by
  rw [State.stuckNotice_eq]; exact .beside s

theorem State.ownCollision_follows (s : State) : s.Follows s.ownCollision := by
  have hcounted : s.Follows s.ownCollisionCounted := .beside s
  rcases Nat.lt_or_ge (s.ctl.ownCollisions + 1) 3 with h | h
  · rw [State.ownCollision_counts h]; exact hcounted
  · rw [State.ownCollision_faults h]; exact hcounted.trans (State.enterFaulted_follows _ _)

theorem State.headerFails_follows (s : State) (k : FrameClass) : s.Follows (s.headerFails k) := by
  have hcounted : s.Follows s.headerFailed := .beside s
  by_cases hk : k = .contention ∨ s.ctl.sync = .unsynced
  · rw [State.headerFails_counts hk]
    split
    · exact hcounted.trans (State.enterFaulted_follows _ _)
    · exact hcounted
  · unfold State.headerFails
    simp only
    rw [if_neg fun h => hk (.inl h), if_neg fun h => hk (.inr h)]
    exact .beside s

theorem State.silenceExpires_follows (s : State) : s.Follows s.silenceExpires := by
  unfold State.silenceExpires
  repeat' split
  · exact .beside s
  · exact .refl s
  · exact .refl s

theorem State.beaconExpires_follows (s : State) : s.Follows s.beaconExpires := by
  unfold State.beaconExpires
  repeat' split
  · have hsched : s.Follows { s with sched := { s.sched with beaconDue := true } } := .sched s rfl
    exact hsched.trans (.beside _)
  · exact .refl s
  · exact .refl s

/-! ### Wait lists (R98 to R103) -/

/-- The entries of lane `i` on a list. -/
def entriesOf (i : Fin 8) (l : List WaitEntry) : Nat := l.countP fun e => e.lane == i

theorem State.timesListed_eq (s : State) (i : Fin 8) (f : Fin 32) :
    s.timesListed i f = entriesOf i s.flags.lists[f] := rfl

theorem onList_iff (l : List WaitEntry) (i : Fin 8) : onList l i = true ↔ 0 < entriesOf i l := by
  rw [onList, entriesOf, List.countP_pos_iff, List.any_eq_true]

/-- The lanes released and those that stay are the lanes of the list (R99). -/
theorem entriesOf_released (i : Fin 8) (l : List WaitEntry) :
    entriesOf i (releasedEntries l) + entriesOf i (remainingEntries l) = entriesOf i l := by
  have htake : entriesOf i ((l.filter fun e => e.consume).take 1) + entriesOf i ((l.filter fun e => e.consume).drop 1) =
      entriesOf i (l.filter fun e => e.consume) := by
    rw [entriesOf, entriesOf, ← List.countP_append, List.take_append_drop]; rfl
  have hsplit : entriesOf i l =
      entriesOf i (l.filter fun e => e.consume) + entriesOf i (l.filter fun e => !e.consume) := by
    simpa [entriesOf] using List.countP_eq_countP_filter_add l (fun e => e.lane == i) fun e => e.consume
  have happend : entriesOf i (releasedEntries l) =
      entriesOf i (l.filter fun e => !e.consume) + entriesOf i ((l.filter fun e => e.consume).take 1) :=
    List.countP_append
  rw [remainingEntries, happend]
  omega

/-- A released lane is on the list (R99). -/
theorem listed_of_released {i : Fin 8} {l : List WaitEntry} (h : onList (releasedEntries l) i = true) :
    0 < entriesOf i l := by
  have := entriesOf_released i l
  have := (onList_iff _ _).mp h
  omega

/-- A lane on a list waits on its flag, and is on the list once (R98). -/
theorem State.waits_of_listed {f : Fin 32} (h : s.waitersListed) (hl : 0 < entriesOf i s.flags.lists[f]) :
    (s.lanes[i].state = .waiting ∧ s.lanes[i].flag = f) ∧ entriesOf i s.flags.lists[f] = 1 := by
  have hi := h i f
  rw [State.timesListed_eq] at hi
  split at hi
  · exact ⟨‹_›, hi⟩
  · omega

/-- What a lane may become while the wait lists change: it may begin or end a wait. -/
structure Lane.TurnsTo (l m : Lane) : Prop where
  holds : (l.heldEvent.isSome = true → l.state = .reporting) → m.heldEvent.isSome = true → m.state = .reporting
  inside : l.accessesInside → m.accessesInside
  exchange : l.state = .exchange → m.state = .exchange

theorem Lane.MovesTo.turns {l m : Lane} (h : l.MovesTo m) : l.TurnsTo m := ⟨h.holds, h.inside, h.exchange⟩

/-- A waiting lane leaves its wait list (R99, R102, R103). -/
theorem Lane.leaveWait_turns {l : Lane} (hs : l.state = .waiting) (st : Status) : l.TurnsTo (l.leaveWait st) where
  holds hl he := by rw [hs] at hl; cases hl he
  inside h := Lane.accessesInside_of_same h ⟨rfl, rfl, rfl, rfl⟩ (fun hf => absurd hf (Lane.not_hasFrame (.inl rfl)))
    trivial
  exchange hx := by rw [hs] at hx; cases hx

/-- A lane joins a wait list (R101). -/
theorem Lane.enterWait_turns {l : Lane} (hs : l.state = .working) : l.TurnsTo l.enterWait where
  holds hl he := by rw [hs] at hl; cases hl he
  inside h := Lane.accessesInside_of_same h ⟨rfl, rfl, rfl, rfl⟩
    (fun hf => absurd hf (Lane.not_hasFrame (.inr (.inr (.inl rfl))))) trivial
  exchange hx := by rw [hs] at hx; cases hx

/-- Lane `i` of `t` is on the lists as R98 has it. -/
def State.listedAsWaits (t : State) (i : Fin 8) : Prop :=
  ∀ f : Fin 32, t.timesListed i f = if t.lanes[i].state = .waiting ∧ t.lanes[i].flag = f then 1 else 0

/-- The wait lists change with their lanes. -/
theorem State.Follows.of_lists (ho : t.sched = s.sched) (hu : s.SameUnits t)
    (hm : s.lanesPlaced → ∀ i : Fin 8, s.lanes[i].TurnsTo t.lanes[i] ∧ t.listedAsWaits i) : s.Follows t where
  placed h := ⟨fun i => (hm h i).2, fun i => (hm h i).1.holds (h.holders i),
    State.ownerInExchange_of_same h.owner (by rw [ho]) fun i => (hm h i).1.exchange⟩
  inside hp h i := (hm hp i).1.inside (h i)
  receive := hu.receiveConsistent
  windows := hu.windowsInside

/-- A lane that stays while its entries stay. -/
theorem State.listedAsWaits_of_same (h : s.waitersListed) (hl : t.lanes[i] = s.lanes[i])
    (hf : ∀ f : Fin 32, entriesOf i t.flags.lists[f] = entriesOf i s.flags.lists[f]) : t.listedAsWaits i := fun f => by
  rw [State.timesListed_eq, hf, hl]
  exact h i f

/-- A lane that ends its wait with its entry gone. -/
theorem State.listedAsWaits_of_left {g : Fin 32} (h : s.waitersListed) (hg : s.lanes[i].flag = g)
    (hw : t.lanes[i].state ≠ .waiting)
    (hf : ∀ f : Fin 32, entriesOf i t.flags.lists[f] = if f = g then 0 else entriesOf i s.flags.lists[f]) :
    t.listedAsWaits i := fun f => by
  have hnot : ¬(t.lanes[i].state = .waiting ∧ t.lanes[i].flag = f) := fun hx => hw hx.1
  rw [State.timesListed_eq, hf, if_neg hnot]
  by_cases hfg : f = g
  · exact if_pos hfg
  · rw [if_neg hfg]
    exact (h i f).trans (if_neg fun hx => hfg (hx.2.symm.trans hg))

theorem getElem_lists_set (v : Vector (List WaitEntry) 32) (f g : Fin 32) (l : List WaitEntry) :
    (v.set f.val l f.isLt)[g] = if g = f then l else v[g] := by
  simp [Vector.getElem_set, Fin.ext_iff, eq_comm]

theorem State.setFlag_follows (s : State) (f : Fin 32) : s.Follows (s.setFlag f) := by
  by_cases hset : s.flags.isSet f = true
  · rw [State.setFlag, if_pos hset]; exact .refl s
  have hlists (g : Fin 32) : (s.setFlag f).flags.lists[g] =
      if g = f then remainingEntries s.flags.lists[f] else s.flags.lists[g] := by
    rw [State.setFlag_flags, FlagUnit.set, if_neg hset]
    exact getElem_lists_set _ _ _ _
  have hlane (i : Fin 8) : (s.setFlag f).lanes[i] =
      if onList (releasedEntries s.flags.lists[f]) i then s.lanes[i].leaveWait .done else s.lanes[i] := by
    rw [State.setFlag, if_neg hset]
    exact State.lanes_mapLanes_get _ _ i
  refine .of_lists (by rw [State.setFlag_frame])
    (by rw [State.setFlag_frame]; exact .of_eq rfl rfl rfl) fun hp i => ?_
  have hsplit := entriesOf_released i s.flags.lists[f]
  by_cases hr : onList (releasedEntries s.flags.lists[f]) i = true
  · obtain ⟨⟨hw, hf⟩, hone⟩ := State.waits_of_listed hp.waiters (listed_of_released hr)
    have hgone : entriesOf i (remainingEntries s.flags.lists[f]) = 0 := by
      have := (onList_iff _ _).mp hr
      omega
    refine ⟨by rw [hlane, if_pos hr]; exact Lane.leaveWait_turns hw _,
      State.listedAsWaits_of_left hp.waiters hf (by rw [hlane, if_pos hr]; simp) fun g => ?_⟩
    rw [hlists]
    split
    · exact hgone
    · rfl
  · have hnone : entriesOf i (releasedEntries s.flags.lists[f]) = 0 :=
      Nat.eq_zero_of_not_pos fun h => hr ((onList_iff _ _).mpr h)
    refine ⟨by rw [hlane, if_neg hr]; exact (Lane.MovesTo.refl _).turns,
      State.listedAsWaits_of_same hp.waiters (by rw [hlane, if_neg hr]) fun g => ?_⟩
    rw [hlists]
    split
    · subst_vars; omega
    · rfl

theorem State.clearFlag_follows (s : State) (f : Fin 32) : s.Follows (s.clearFlag f) :=
  .of_same ⟨rfl, rfl, rfl⟩ (.of_eq rfl rfl rfl)

/-- One flag after another (R104). -/
theorem State.foldl_follows {g : State → Fin 32 → State} (hg : ∀ (s : State) f, s.Follows (g s f)) (l : List (Fin 32))
    (s : State) : s.Follows (l.foldl g s) := by
  induction l generalizing s with
  | nil => exact .refl s
  | cons f l ih => exact (hg s f).trans (ih _)

theorem State.setFlagMask_follows (s : State) (mask : BitVec 32) : s.Follows (s.setFlagMask mask) :=
  State.foldl_follows (fun s f => by split; exacts [s.setFlag_follows f, .refl s]) _ s

theorem State.clearFlagMask_follows (s : State) (mask : BitVec 32) : s.Follows (s.clearFlagMask mask) :=
  State.foldl_follows (fun s f => by split; exacts [s.clearFlag_follows f, .refl s]) _ s

/-- A lane that is at work stays at work while a flag is set. -/
theorem State.setFlag_working {f : Fin 32} (h : s.lanes[i].state = .working) :
    (s.setFlag f).lanes[i].state = .working := by
  unfold State.setFlag
  split
  · exact h
  · simp only [State.lanes_mapLanes_get]
    split
    · rfl
    · exact h

/-- A lane at work whose request is satisfied writes its final status (R88, R101). -/
theorem State.Follows.finishes {st : Status} (h : s.Follows t) (hw : t.lanes[i].state = .working) :
    s.Follows (t.updateLane i fun l => l.finish st) := h.trans (.working hw (Lane.finish_becomes hw (.refl _)))

theorem State.takeFlagRequest_follows (s : State) (i : Fin 8) : s.Follows (s.takeFlagRequest i) := by
  unfold State.takeFlagRequest
  simp only
  split
  · rename_i h
    obtain ⟨hw, -⟩ := h
    split
    · exact (s.setFlag_follows _).finishes (State.setFlag_working hw)
    · exact (s.clearFlag_follows _).finishes hw
  · exact .refl s

/-- A lane joins the wait list of its flag (R101). -/
theorem State.enqueue_follows {c : Bool} (hw : s.lanes[i].state = .working) :
    s.Follows (({ s with flags := s.flags.enqueue s.lanes[i].flag { lane := i, consume := c } } : State).updateLane i
      Lane.enterWait) := by
  set t := ({ s with flags := s.flags.enqueue s.lanes[i].flag { lane := i, consume := c } } : State).updateLane i
    Lane.enterWait with ht
  have hlane (j : Fin 8) : t.lanes[j] = if j = i then s.lanes[i].enterWait else s.lanes[j] :=
    State.lanes_updateLane_get _ i j _
  have hlists (f : Fin 32) : t.flags.lists[f] = if f = s.lanes[i].flag then
      s.flags.lists[s.lanes[i].flag] ++ [{ lane := i, consume := c }] else s.flags.lists[f] :=
    getElem_lists_set _ _ _ _
  refine .of_lists rfl (.of_eq rfl rfl rfl) fun hp j => ?_
  by_cases hj : j = i
  · subst hj
    refine ⟨by rw [hlane, if_pos rfl]; exact Lane.enterWait_turns hw, fun f => ?_⟩
    have hnone (g : Fin 32) : entriesOf j s.flags.lists[g] = 0 :=
      (hp.waiters j g).trans (if_neg fun hx => by rw [hw] at hx; cases hx.1)
    rw [State.timesListed_eq, hlists, hlane, if_pos rfl]
    split
    · rw [if_pos ⟨rfl, Eq.symm ‹_›⟩, entriesOf, List.countP_append]
      simpa [entriesOf] using hnone s.lanes[j].flag
    · rw [if_neg fun hx => ‹¬_› hx.2.symm, hnone]
  · refine ⟨by rw [hlane, if_neg hj]; exact (Lane.MovesTo.refl _).turns,
      State.listedAsWaits_of_same hp.waiters (by rw [hlane, if_neg hj]) fun f => ?_⟩
    rw [hlists]
    split
    · subst_vars
      simp [entriesOf, Ne.symm hj]
    · rfl

theorem State.takeWaitRequest_follows (s : State) (i : Fin 8) : s.Follows (s.takeWaitRequest i) := by
  unfold State.takeWaitRequest
  simp only
  split
  · rename_i h
    obtain ⟨hw, -⟩ := h
    split
    · split
      · exact (s.clearFlag_follows _).finishes hw
      · exact (State.Follows.refl s).finishes hw
    · exact State.enqueue_follows hw
  · exact .refl s

/-- A lane on its wait list leaves it (R102, R103). -/
theorem State.leaveList_follows {st : Status} (hon : s.onWaitList i = true) : s.Follows (s.leaveList i st) := by
  have hlane (j : Fin 8) : (s.leaveList i st).lanes[j] = if j = i then s.lanes[i].leaveWait st else s.lanes[j] :=
    State.lanes_updateLane_get _ i j _
  have hlists (f : Fin 32) : (s.leaveList i st).flags.lists[f] = if f = s.lanes[i].flag then
      s.flags.lists[s.lanes[i].flag].filter fun e => e.lane != i else s.flags.lists[f] :=
    getElem_lists_set _ _ _ _
  refine .of_lists rfl (.of_eq rfl rfl rfl) fun hp j => ?_
  by_cases hj : j = i
  · subst hj
    obtain ⟨⟨hw, hf⟩, -⟩ := State.waits_of_listed hp.waiters ((onList_iff _ _).mp hon)
    refine ⟨by rw [hlane, if_pos rfl]; exact Lane.leaveWait_turns hw _,
      State.listedAsWaits_of_left hp.waiters hf (by rw [hlane, if_pos rfl]; simp) fun f => ?_⟩
    rw [hlists]
    split
    · simp [entriesOf, List.countP_filter]
    · rfl
  · refine ⟨by rw [hlane, if_neg hj]; exact (Lane.MovesTo.refl _).turns,
      State.listedAsWaits_of_same hp.waiters (by rw [hlane, if_neg hj]) fun f => ?_⟩
    rw [hlists]
    split
    · subst_vars
      rw [entriesOf, List.countP_filter]
      refine List.countP_congr fun e _ => ?_
      simp only [Bool.and_eq_true, beq_iff_eq, bne_iff_ne, and_iff_left_iff_imp]
      rintro rfl
      exact hj
    · rfl

theorem State.takeExpiry_follows (s : State) (i : Fin 8) : s.Follows (s.takeExpiry i) := by
  unfold State.takeExpiry
  split
  · split
    · exact State.leaveList_follows ‹_›
    · exact .setLane fun _ => ⟨.of_staying rfl rfl rfl id, id⟩
  · exact .refl s

theorem State.takeRemoval_follows (s : State) (i : Fin 8) : s.Follows (s.takeRemoval i) := by
  unfold State.takeRemoval
  split
  · split
    · exact State.leaveList_follows ‹_›
    · exact .setLane fun _ => ⟨.of_staying rfl rfl rfl id, id⟩
  · exact .refl s

theorem State.waitTimerExpires_follows (s : State) (i : Fin 8) : s.Follows (s.waitTimerExpires i) := by
  unfold State.waitTimerExpires
  simp only
  split
  · exact .setLane fun _ => ⟨.of_staying rfl rfl rfl id, id⟩
  · exact .refl s

/-- The flag unit's masks and its signalled set change (R105, R107). -/
theorem State.Follows.masks (s : State) {u : FlagUnit} (hl : u.lists = s.flags.lists) :
    s.Follows { s with flags := u } :=
  .of_same ⟨rfl, hl, rfl⟩ (.of_eq rfl rfl rfl)

theorem State.takeSignal_follows (s : State) (f : Fin 32) : s.Follows (s.takeSignal f).1 := by
  unfold State.takeSignal
  split
  · split
    · exact (s.setFlag_follows f).trans (.masks _ rfl)
    · exact s.setFlag_follows f
  · exact .refl s

end Sys2Proof.Machine
end

section
/-! The accesses that take a word, as steps that answer: the claims of the lanes and of the host (R77 to R90, R158 to
R165). -/

namespace Sys2Proof.Machine

variable {s t u : State} {i : Fin 8} {r : Except Fault State}

/-! ### Accesses that answer -/

/-- What is done from `s` does not fault where the accesses of `s` are inside buffer memory, and ends in a state that
follows. -/
structure State.Answers (s : State) (r : Except Fault State) : Prop where
  answered : s.accessesInside → ∃ t, r = .ok t
  follows : ∀ t, r = .ok t → s.Follows t

theorem State.Follows.accessesInside (h : s.Follows t) (hs : s.accessesInside) : t.accessesInside := by
  obtain ⟨hplaced, hreceive, hwindows, hlanes⟩ := hs
  exact ⟨h.placed hplaced, h.receive hreceive, h.windows hwindows, h.inside hplaced hlanes⟩

theorem State.Follows.answers (h : s.Follows t) : s.Answers (.ok t) :=
  ⟨fun _ => ⟨t, rfl⟩, fun _ ht => by cases ht; exact h⟩

/-- A step before an access. -/
theorem State.Follows.thenAnswers (h : s.Follows u) (hr : u.Answers r) : s.Answers r :=
  ⟨fun hs => hr.answered (h.accessesInside hs), fun t ht => h.trans (hr.follows t ht)⟩

/-- A step after an access: it faults with the access, and answers after it. -/
theorem State.Answers.bind {r' : Except Fault State} (hr : s.Answers r) (herror : ∀ e, r = .error e → r' = .error e)
    (hok : ∀ u, r = .ok u → u.Answers r') : s.Answers r' := by
  cases hu : r with
  | error e => rw [herror e hu, ← hu]; exact hr
  | ok u => exact (hr.follows u hu).thenAnswers (hok u hu)

/-! ### The word accesses of the lanes -/

/-- A lane at work stores a word inside buffer memory and goes on. -/
theorem State.laneStores_answers {a : Nat} {w : Word} {f : Lane → Lane} (hs : s.lanes[i].state = .working)
    (ha : s.accessesInside → a < Config.memoryWords) (hf : s.lanes[i].Becomes (f s.lanes[i])) :
    s.Answers (s.laneStores i a w f) := by
  have hcells : s.Follows { s with mem := { s.mem with cells := writeCell a w s.mem.cells } } := .cells s rfl
  unfold State.laneStores State.writeWord
  by_cases hin : a < Config.memoryWords
  · rw [if_pos hin]
    exact (hcells.trans (.working hs hf)).answers
  · rw [if_neg hin]
    exact ⟨fun h => absurd (ha h) hin, fun _ h => by cases h⟩

/-- A lane at work reads a word inside buffer memory and goes on. -/
theorem State.laneReads_answers {a : Nat} {f : Word → Lane → Lane} (hs : s.lanes[i].state = .working)
    (ha : s.accessesInside → a < Config.memoryWords) (hf : ∀ w, s.lanes[i].Becomes (f w s.lanes[i])) :
    s.Answers (s.laneReads i a f) := by
  unfold State.laneReads State.readWord
  by_cases hin : a < Config.memoryWords
  · rw [if_pos hin]
    exact (State.Follows.working hs (hf _)).answers
  · rw [if_neg hin]
    exact ⟨fun h => absurd (ha h) hin, fun _ h => by cases h⟩

theorem State.accessesInside.lane (h : s.accessesInside) (i : Fin 8) : s.lanes[i].accessesInside := by
  obtain ⟨-, -, -, hlanes⟩ := h
  exact hlanes i

/-- The words of a descriptor lie inside buffer memory (R77). -/
theorem State.accessesInside.descriptor (h : s.accessesInside) (i : Fin 8) (k : Fin 8) :
    s.lanes[i].address + k.val < Config.memoryWords := by
  obtain ⟨ha, -⟩ := h.lane i
  have : s.lanes[i].address ≤ 16376 := ha
  have := k.isLt
  rw [Config.memoryWords]
  omega

theorem State.laneAccess_answers (hs : s.lanes[i].state = .working) : s.Answers (s.laneAccess i) := by
  unfold State.laneAccess
  simp only
  split <;> rename_i hj
  · exact State.laneReads_answers hs (fun h => h.descriptor i _) fun w => Lane.fetchedWord_becomes hs hj w
  · exact State.laneStores_answers hs (fun h => h.descriptor i 7) (Lane.fetched_becomes hs hj _ _)
  · refine State.laneReads_answers hs (fun h => ?_) fun w => Lane.payloadWord_becomes hs hj w
    have hin := (h.lane i).job
    simp only [Lane.jobInside, hj] at hin
    omega
  · refine State.laneStores_answers hs (fun h => ?_) (Lane.storedWord_becomes hs hj)
    have hin := (h.lane i).job
    simp only [Lane.jobInside, hj, List.length_cons] at hin
    omega
  · exact (State.Follows.working hs (Lane.finish_becomes hs (.refl _))).answers
  · exact State.laneStores_answers hs (fun h => h.descriptor i 6) (Lane.writeStatus_becomes hs)
  · rename_i st
    have hstored : s.Answers
        (s.laneStores i (s.lanes[i].address + 7) (statusWord st) fun l => l.statusWritten i st) :=
      State.laneStores_answers hs (fun h => h.descriptor i 7) (Lane.statusWritten_becomes hs)
    exact hstored.bind (fun e he => by rw [he]) fun u hu => by rw [hu]; exact u.drainTest_follows.answers
  all_goals exact (State.Follows.refl s).answers

/-- The lane whose claim is served is at work (R160). -/
theorem State.working_of_nextClaim (h : s.nextClaim = some i) : s.lanes[i].state = .working := by
  unfold State.nextClaim at h
  split at h
  · have hclaims : s.lanes[i].claims = true := by simpa using List.find?_some h
    rw [Lane.claims, Bool.and_eq_true, beq_iff_eq] at hclaims
    exact hclaims.1
  · cases h

theorem State.serveLane_answers (s : State) : s.Answers s.serveLane := by
  unfold State.serveLane
  split
  · exact (State.Follows.refl s).answers
  · rename_i i hi
    have hpointer : s.Follows { s with mem := { s.mem with lanePointer := i } } := .cells s rfl
    have hworking := State.working_of_nextClaim hi
    have hlane := hpointer.thenAnswers (State.laneAccess_answers hworking)
    refine hlane.bind (fun e he => by rw [he]) fun u hu => ?_
    rw [hu]
    exact u.fill_follows.answers

/-! ### The accesses of the host -/

theorem State.acknowledge_follows (s : State) : s.Follows s.acknowledge := by
  unfold State.acknowledge
  split
  · exact .refl s
  · have hpopped {q : EventQueue} : s.Follows { s with queue := q } := .beside s
    exact hpopped.fill

theorem State.pageWrite_follows (s : State) (page : BitVec 5) (v : Word) : s.Follows (s.pageWrite page v) := by
  unfold State.pageWrite
  split
  case h_3 => exact s.acknowledge_follows
  case h_11 => exact .refl s
  all_goals exact .beside s

theorem State.hostWrite_follows (s : State) (a : BitVec 15) (v : Word) : s.Follows (s.hostWrite a v) := by
  unfold State.hostWrite
  repeat' split
  · exact .cells s rfl
  · exact s.pageWrite_follows _ v
  · exact .refl s

theorem State.serveHost_follows (s : State) (c : HostClaim) : s.Follows (s.serveHost c) := by
  cases c with
  | write a v => exact s.hostWrite_follows a v
  | read a driven => exact .beside s

theorem State.strobeEnds_follows (s : State) : s.Follows s.strobeEnds := .beside s

theorem State.hostAccess_follows (s : State) (c : HostClaim) : s.Follows (s.hostAccess c) := by
  unfold State.hostAccess
  simp only
  split
  · exact s.strobeEnds_follows.trans (s.strobeEnds.serveHost_follows c)
  · exact s.strobeEnds_follows.trans (.beside _)

theorem State.hostStrobe_follows (s : State) (a : BitVec 15) (h : HostStrobe) : s.Follows (s.hostStrobe a h) := by
  cases h with
  | write v => exact s.hostAccess_follows _
  | read => exact s.hostAccess_follows _
  | readEnds => exact s.strobeEnds_follows

/-! ### The controller -/

theorem State.serveClaim_answers (s : State) : s.Answers s.serveClaim := by
  unfold State.serveClaim
  split
  · exact s.lineAccess_follows.fill.answers
  split
  · rename_i c rest _
    have hserved : s.Follows { s with host := { s.host with claims := rest } } := .beside s
    exact (hserved.trans (State.serveHost_follows _ c)).answers
  · exact s.serveLane_answers

end Sys2Proof.Machine
end

section
/-! Deliveries as steps that answer: the takes that the receive unit and the windows begin stay inside buffer memory
(R50, R51, R117 to R121, R133 to R135). -/

namespace Sys2Proof.Machine

variable {base s t : State} {i : Fin 12} {c : Context} {h : Header} {ws : List Word} {d : Delivery}
  {r : Except Fault State} {x : Except Fault (State × ReplyCode)} {code : ReplyCode}

/-! ### Takes that begin -/

theorem State.accessesInside.receives (h : s.accessesInside) : s.receiveConsistent := by
  obtain ⟨-, hr, -⟩ := h
  exact hr

theorem State.accessesInside.windows (h : s.accessesInside) : s.windowsInside := by
  obtain ⟨-, -, hw, -⟩ := h
  exact hw

/-- A take begins inside buffer memory with work that fits the receive unit (R161). -/
theorem State.beginTake_answers {a : Nat} {work : LineWork} (hb : base.Follows s)
    (hin : base.accessesInside → a + work.remaining ≤ Config.memoryWords)
    (hfit : base.receiveConsistent → ∀ rest i c opens, work = .store rest (.segment i c opens) →
      s.recv.storeFits i c opens) :
    base.Answers (s.beginTake a work) := by
  unfold State.beginTake
  by_cases ha : a + work.remaining ≤ Config.memoryWords
  · rw [if_pos ha]
    refine State.Follows.answers (hb.thenUnits ⟨rfl, rfl, rfl⟩ (fun hr => ?_) id)
    refine (State.receiveConsistent_iff _).mpr ⟨(hb.receive hr).unit, fun k rest i c opens hk hw => ?_⟩
    cases hk
    exact hfit hr rest i c opens hw
  · rw [if_neg ha]
    exact ⟨fun h => absurd (hin h) ha, fun _ h => by cases h⟩

/-! ### Segments that fit -/

/-- The awaited segment of a context whose message fits its buffer: the first words are stored, and the buffer lies
inside buffer memory (R119). -/
structure Context.Awaits (c : Context) (n : Nat) : Prop where
  stored : c.stored = 32 * c.next
  more : 32 * c.next < c.length
  fits : c.length ≤ c.buffer.capacity
  inside : c.buffer.inside
  size : n = segmentSize c.length c.next

theorem segmentSize_full {n k : Nat} (h : 32 * (k + 1) < n) : segmentSize n k = 32 := by
  unfold segmentSize
  split <;> omega

/-- The context after the awaited segment is complete or consistent (R114, R119). -/
theorem Context.Awaits.stored32 {ws : List Word} (h : c.Awaits ws.length) :
    (c.stored32 ws).next = segmentCount (c.stored32 ws).length ∨ (c.stored32 ws).consistent := by
  rcases Nat.lt_or_ge (32 * (c.next + 1)) c.length with hmore | hlast
  · have hsize : ws.length = 32 := h.size.trans (segmentSize_full hmore)
    have hstored : c.stored + ws.length = 32 * (c.next + 1) := by
      have := h.stored
      omega
    exact .inr ⟨hstored, Nat.le_add_left 1 c.next, (lt_segmentCount_iff _ _).mpr hmore, h.fits, h.inside⟩
  · have hmore := h.more
    refine .inl (?_ : c.next + 1 = segmentCount c.length)
    unfold segmentCount
    omega

/-- The awaited segment lies inside buffer memory (R119). -/
theorem Context.Awaits.segment {n : Nat} (h : c.Awaits n) :
    c.buffer.address + 32 * c.next + n ≤ Config.memoryWords := by
  have hend := (segmentSize_inside h.more).2
  have hsize := h.size
  have hfits := h.fits
  have hin : c.buffer.address + c.buffer.capacity ≤ Config.memoryWords := h.inside
  omega

theorem State.storeSegment_answers {opens : Bool} (hb : base.Follows s)
    (hawaits : base.receiveConsistent → c.Awaits ws.length)
    (hentry : base.receiveConsistent →
      if opens then s.recv.contexts[i] = none ∧ s.recv.ports[c.port].posted.head? = some c.buffer ∧
        ∀ (j : Fin 12) d, s.recv.contexts[j] = some d → ¬(d.source = c.source ∧ d.lane = c.lane)
      else ∃ d, s.recv.contexts[i] = some d ∧ d.source = c.source ∧ d.lane = c.lane ∧ d.port = c.port ∧
        d.buffer = c.buffer) :
    base.Answers (s.storeSegment i c ws opens) := by
  refine State.beginTake_answers hb (fun h => (hawaits h.receives).segment) fun hr rest j e opens' hw => ?_
  cases hw
  exact ⟨(hawaits hr).stored32, hentry hr⟩

/-! ### Answers with a reply code -/

/-- The same with the code that answers the frame. -/
def State.AnswersWith (s : State) (x : Except Fault (State × ReplyCode)) : Prop := s.Answers (x.map Prod.fst)

theorem State.Follows.answersWith (h : s.Follows t) : s.AnswersWith (.ok (t, code)) := h.answers

/-- A take that began is accepted. -/
theorem State.Answers.accepted (hr : s.Answers r) (herror : ∀ e, r = .error e → x = .error e)
    (hok : ∀ t, r = .ok t → x = .ok (t, code)) : s.AnswersWith x := by
  unfold State.AnswersWith
  cases hu : r with
  | error e => rw [herror e hu]; rw [hu] at hr; exact hr
  | ok u => rw [hok u hu]; rw [hu] at hr; exact hr

theorem State.answer_follows (s : State) (h : Header) (code : ReplyCode) (ws : List Word) :
    s.Follows (s.answer h code ws) := .beside s

theorem State.AnswersWith.answered (hx : s.AnswersWith x) : s.Answers (State.answered x h) := by
  unfold State.AnswersWith at hx
  cases x with
  | error e => exact hx
  | ok y => exact ((hx.follows y.1 rfl).trans (y.1.answer_follows h y.2 [])).answers

/-! ### DATA (R117 to R121) -/

/-- No open context has the key of the frame (R120). -/
def ReceiveUnit.keyFree (r : ReceiveUnit) (h : Header) : Prop :=
  ∀ (j : Fin 12) d, r.contexts[j] = some d → ¬(d.source = h.source ∧ d.lane = h.sourceLane)

theorem ReceiveUnit.keyFree_of_findKey {r : ReceiveUnit} (hf : r.findKey h.source h.sourceLane = none) :
    r.keyFree h := by
  intro j d hd hk
  have hj := List.find?_eq_none.mp hf j (List.mem_finRange j)
  rw [hd] at hj
  simp [hk] at hj

theorem ReceiveUnit.context_of_findKey {r : ReceiveUnit} (hf : r.findKey h.source h.sourceLane = some i)
    (hc : r.contexts[i] = some c) : c.source = h.source ∧ c.lane = h.sourceLane := by
  have hi := List.find?_some hf
  rw [hc] at hi
  simpa using hi

theorem ReceiveUnit.context_isSome_of_findKey {r : ReceiveUnit} (hf : r.findKey h.source h.sourceLane = some i) :
    r.contexts[i] ≠ none := by
  have hi := List.find?_some hf
  intro hn
  rw [hn] at hi
  cases hi

/-- With the one context of the key abandoned the key is free (R114, R118). -/
theorem ReceiveUnit.keyFree_of_abandon {r : ReceiveUnit} (hr : r.consistent) (hc : r.contexts[i] = some c)
    (hk : c.source = h.source ∧ c.lane = h.sourceLane) (st : ReceiveStatus) : (r.abandon i st).keyFree h := by
  obtain ⟨hcontexts, -⟩ := r.abandon_spec i st
  intro j d hd hkd
  rw [hcontexts j] at hd
  split at hd
  · cases hd
  · exact ‹¬_› (hr.keys j i d c hd hc (hkd.1.trans hk.1.symm) (hkd.2.trans hk.2.symm))

/-- The payload of a segment of the message that the header names. -/
structure Header.SegmentOf (h : Header) (n : Nat) : Prop where
  more : 32 * h.index < h.messageLength
  size : n = segmentSize h.messageLength h.index

theorem ReceiveUnit.contexts_of_freeEntry {r : ReceiveUnit} (hf : r.freeEntry = some i) : r.contexts[i] = none := by
  simpa using List.find?_some hf

theorem State.newMessage_answers (hb : base.Follows s) (hkey : base.receiveConsistent → s.recv.keyFree h)
    (hs : h.SegmentOf ws.length) (h0 : h.index = 0) : base.AnswersWith (s.newMessage h ws) := by
  unfold State.newMessage
  simp only
  split
  · exact hb.answersWith
  split
  · exact hb.answersWith
  rename_i b rest hposted
  split
  · exact hb.answersWith
  rename_i i hfree
  split
  · exact hb.answersWith
  rename_i hfits
  have hstore : base.Answers (s.storeSegment i (newContext h b) ws true) := by
    refine State.storeSegment_answers hb (fun hr => ?_) fun hr => ?_
    · have hin : b.inside := (hb.receive hr).unit.posted h.port b (by rw [hposted]; exact List.mem_cons_self)
      have hmore := hs.more
      have hsize := hs.size
      rw [h0] at hmore hsize
      exact ⟨rfl, hmore, Nat.le_of_not_lt hfits, hin, hsize⟩
    · have hhead : s.recv.ports[h.port].posted.head? = some b := by rw [hposted]; rfl
      rw [if_pos rfl]
      exact ⟨ReceiveUnit.contexts_of_freeEntry hfree, hhead, hkey hr⟩
  exact hstore.accepted (fun e he => by rw [he]) fun u hu => by rw [hu]

theorem State.dataWithoutContext_answers (hb : base.Follows s) (hkey : base.receiveConsistent → s.recv.keyFree h)
    (hs : h.SegmentOf ws.length) : base.AnswersWith (s.dataWithoutContext h ws) := by
  unfold State.dataWithoutContext
  split
  · exact hb.answersWith
  split
  · exact hb.answersWith
  · exact State.newMessage_answers hb hkey hs (by omega)

/-- The awaited segment of an open context (R118, R119). -/
theorem Context.awaits_of_consistent (hc : c.consistent) (hm : c.sameMessage h = true) (hn : h.index = c.next)
    (hs : h.SegmentOf ws.length) : c.Awaits ws.length := by
  obtain ⟨hstored, -, hmore, hfits, hin⟩ := hc
  have hlength : c.length = h.messageLength := by
    simp only [Context.sameMessage, Bool.and_eq_true, beq_iff_eq] at hm
    exact hm.2
  exact ⟨hstored, (lt_segmentCount_iff _ _).mp hmore, hfits, hin, by rw [hlength, ← hn]; exact hs.size⟩

theorem State.abandon_follows (ht : s.mem.take = none) (i : Fin 12) (st : ReceiveStatus) :
    s.Follows { s with recv := s.recv.abandon i st } :=
  .receives ht fun hr => ReceiveUnit.abandon_consistent hr i st

theorem State.dataWithContext_answers (ht : s.mem.take = none) (hc : s.recv.contexts[i] = some c)
    (hk : c.source = h.source ∧ c.lane = h.sourceLane) (hs : h.SegmentOf ws.length) :
    s.AnswersWith (s.dataWithContext i c h ws) := by
  unfold State.dataWithContext
  split
  · rename_i hm
    split
    · refine State.Follows.answersWith (.receives ht fun hr => ?_)
      refine ReceiveUnit.consistent_of_fewer hr (fun p b hb => .inl hb) fun k e he => ?_
      rw [ReceiveUnit.contexts_setContext_get] at he
      split at he
      · subst_vars; cases he; exact ⟨c, 0, hc, rfl⟩
      · exact ⟨e, e.age, he, rfl⟩
    split
    · rename_i hn
      have hstore : s.Answers (s.storeSegment i c ws false) := by
        refine State.storeSegment_answers (.refl s) (fun hr => ?_) fun _ => ?_
        · exact Context.awaits_of_consistent (hr.unit.contexts i c hc) hm hn hs
        · rw [if_neg (by decide)]
          exact ⟨c, hc, rfl, rfl, rfl, rfl⟩
      exact hstore.accepted (fun e he => by rw [he]) fun u hu => by rw [hu]
    · exact (State.abandon_follows ht i .gap).answersWith
  split
  · exact State.dataWithoutContext_answers (State.abandon_follows ht i .superseded)
      (fun hr => ReceiveUnit.keyFree_of_abandon hr.unit hc hk _) hs
  · exact (State.Follows.refl s).answersWith

theorem State.dataArrival_answers {fault : Bool} (ht : s.mem.take = none)
    (hs : fault = false → h.SegmentOf ws.length) : s.AnswersWith (s.dataArrival h ws fault) := by
  unfold State.dataArrival
  split
  · exact (State.Follows.refl s).answersWith
  rename_i hfault
  have hs' := hs (Bool.eq_false_iff.mpr hfault)
  split
  · exact (State.Follows.refl s).answersWith
  split
  · rename_i i hi
    split
    · rename_i c hc
      exact State.dataWithContext_answers ht hc (ReceiveUnit.context_of_findKey hi hc) hs'
    · exact absurd ‹_› (ReceiveUnit.context_isSome_of_findKey hi)
  · rename_i hn
    exact State.dataWithoutContext_answers (.refl s) (fun _ => ReceiveUnit.keyFree_of_findKey hn) hs'

/-! ### The window unit (R133 to R135) -/

/-- An accepted request lies inside its window (R133). -/
theorem Window.inside_of_judge {w : Window} {allowed : Bool} (h0 : w.judge h allowed = none) :
    h.offset + h.wordCount ≤ w.length := by
  unfold Window.judge at h0
  repeat' split at h0
  · cases h0
  · cases h0
  · cases h0
  · omega

/-- A take of a window's words begins inside buffer memory (R133, R161). -/
theorem State.windowTake_answers {allowed : Bool} {work : LineWork} (hj : s.windows[h.window].judge h allowed = none)
    (hw : work.remaining = h.wordCount) (hk : ∀ rest i c opens, work ≠ .store rest (.segment i c opens)) :
    s.Answers (s.beginTake (s.windows[h.window].base + h.offset) work) := by
  refine State.beginTake_answers (.refl s) (fun hin => ?_) fun _ rest i c opens he => absurd he (hk rest i c opens)
  have hend := hin.windows h.window
  have := Window.inside_of_judge hj
  omega

theorem State.windowWrite_answers {fault : Bool} (hs : fault = false → ws.length = h.wordCount) :
    s.AnswersWith (s.windowWrite h ws fault) := by
  unfold State.windowWrite
  simp only
  split
  · exact (State.Follows.refl s).answersWith
  rename_i hfault
  split
  · exact (State.Follows.refl s).answersWith
  · have htake := State.windowTake_answers (work := .store ws (.window h.window h.source)) ‹_›
      (hs (Bool.eq_false_iff.mpr hfault)) (by nofun)
    exact htake.accepted (fun e he => by rw [he]) fun u hu => by rw [hu]

theorem State.windowRead_answers (s : State) (h : Header) : s.AnswersWith (s.windowRead h) := by
  unfold State.windowRead
  simp only
  split
  · exact (State.Follows.refl s).answersWith
  · have htake := State.windowTake_answers (work := .fetch h.wordCount []) ‹_› rfl (by nofun)
    exact htake.accepted (fun e he => by rw [he]) fun u hu => by rw [hu]

/-! ### Deliveries (R18, R52) -/

theorem State.cancelArrival_follows (ht : s.mem.take = none) (h : Header) :
    s.Follows { s with recv := s.recv.cancelArrival h } := by
  unfold ReceiveUnit.cancelArrival
  split
  · exact State.abandon_follows ht _ _
  · exact .refl s

theorem State.signalArrival_follows (s : State) (h : Header) : s.Follows (s.signalArrival h) := by
  unfold State.signalArrival
  simp only
  split
  · exact s.takeSignal_follows _
  · exact (s.takeSignal_follows _).trans (State.answer_follows _ _ _ _)

theorem Delivery.length_of_sound (hf : d.payloadFault = false) : d.payload.length = d.header.expectedCount := by
  simp only [Delivery.payloadFault, Bool.or_eq_false_iff, bne_eq_false_iff_eq] at hf
  exact hf.2

/-- A DATA frame that is not malformed, without a payload fault, brings a segment of its message (R50, R51). -/
theorem Delivery.segmentOf {n : Nat} (hk : d.header.kind = some .data) (hm : d.header.malformed n = false)
    (hf : d.payloadFault = false) : d.header.SegmentOf d.payload.length where
  more := by
    have hnot := mt (Header.malformed_iff d.header n).mpr (Bool.eq_false_iff.mp hm)
    exact Nat.lt_of_not_le fun h => hnot (.inr (.inr (.inl ⟨hk, h⟩)))
  size := by rw [Delivery.length_of_sound hf, Header.expectedCount, hk]

theorem State.handOn_answers {n : Nat} (ht : s.mem.take = none) (hm : d.header.malformed n = false) :
    s.Answers (s.handOn d) := by
  have hanswer (code : ReplyCode) : s.Answers (.ok (s.answer d.header code [])) := (s.answer_follows _ _ _).answers
  unfold State.handOn
  simp only
  split <;> rename_i hk
  · exact (State.dataArrival_answers ht fun hf => Delivery.segmentOf hk hm hf).answered
  · refine (State.windowWrite_answers fun hf => ?_).answered
    rw [Delivery.length_of_sound hf, Header.expectedCount, hk]
  · split
    · exact hanswer _
    · exact ((State.cancelArrival_follows ht d.header).trans (State.answer_follows _ _ _ _)).answers
  · split
    · exact hanswer _
    · exact (s.windowRead_answers d.header).answered
  · repeat' split
    · exact (State.Follows.refl s).answers
    · exact hanswer _
    · exact (s.signalArrival_follows d.header).answers
  · exact (State.Follows.mapExchange s fun x => x.takeReply_owner d).answers
  all_goals exact (State.Follows.refl s).answers

theorem State.judge_answers (ht : s.mem.take = none) : s.Answers (s.judge d) := by
  unfold State.judge
  repeat' split
  · exact (State.Follows.refl s).answers
  · exact (State.Follows.refl s).answers
  · exact (s.answer_follows _ _ _).answers
  · exact (State.Follows.refl s).answers
  · exact State.handOn_answers ht (Bool.eq_false_iff.mpr ‹_›)

theorem State.deliver_answers (ht : s.mem.take = none) : s.Answers (s.deliver d) := by
  unfold State.deliver
  simp only
  repeat' split
  · exact (State.Follows.refl s).answers
  · exact (s.headerFails_follows _).answers
  · have hheard : s.Follows { s with ctl := s.ctl.takeHeader d.frameClass d.header } := .beside s
    have hpresence := State.presenceTakes_follows (s := { s with ctl := s.ctl.takeHeader d.frameClass d.header })
      d.header ht
    exact (hheard.trans hpresence).thenAnswers (State.judge_answers (by rw [State.presenceTakes_eq]; exact ht))

theorem State.atFrameEnd_follows (s : State) : s.Follows s.atFrameEnd := s.settleTake_follows.trans (.beside _)

theorem State.frameDelivered_answers (s : State) (f : FrameEnd) : s.Answers (s.frameDelivered f) := by
  unfold State.frameDelivered
  simp only
  split
  · have hend : ({ s.settleTake with
        line := s.settleTake.line.frameEnds, ctl := s.settleTake.ctl.activity } : State) = s.atFrameEnd := by
      simp only [State.atFrameEnd, State.settleTake_line, State.finishTake_frameEnds]
    rw [hend]
    refine (s.atFrameEnd_follows.thenAnswers (State.deliver_answers s.atFrameEnd_take)).bind
      (fun e he => by rw [he]) fun u hu => ?_
    rw [hu]
    exact (u.servesTake_follows f.pause).fill.answers
  · exact (State.Follows.refl s).answers

end Sys2Proof.Machine
end

section
/-! Every command as a step that answers: the line, the scheduler, the timers, the command slot and one bit time. -/

namespace Sys2Proof.Machine

variable {s t : State} {i : Fin 8}

/-! ### The line (R6, R13 to R16) -/

theorem State.ownCompletion_follows (s : State) (h : Header) : s.Follows (s.ownCompletion h) := by
  unfold State.ownCompletion
  split
  · exact .of_same ⟨rfl, rfl, rfl⟩ (.of_eq rfl rfl rfl)
  · exact .refl s

theorem State.ownFrameEnds_follows (s : State) (f : Transmission) : s.Follows (s.ownFrameEnds f) := by
  have hend : s.Follows { s with line := s.line.ownFrameEnds f.frameClass, ctl := s.ctl.activity } := .beside s
  unfold State.ownFrameEnds
  simp only
  split
  · exact hend
  · exact (hend.trans (.mapExchange _ ExchangeRecord.completed_owner)).trans (State.ownCompletion_follows _ _)

theorem State.collide_follows (s : State) (f : Transmission) : s.Follows (s.collide f) := by
  have hjam : s.Follows s.jamBegins := .beside s
  have hdecided : s.Follows s.jamDecided := hjam.trans (.mapExchange _ ExchangeRecord.collided_owner)
  cases hk : f.frameClass with
  | reply =>
    rw [State.collide_reply hk]
    exact hjam.trans (State.observedCollision_follows _)
  | contention =>
    cases ho : s.onLine with
    | true =>
      rw [State.collide_contention_onLine hk ho]
      exact (hdecided.trans (State.ownCollision_follows _)).trans (State.observedCollision_follows _)
    | false =>
      rw [State.collide_contention_offLine hk ho]
      exact hdecided.trans (State.observedCollision_follows _)

/-! ### The scheduler (R59, R62, R69) -/

/-- The lanes become others, the exchange has its owner in EXCHANGE, and the units stay. -/
theorem State.Follows.of_exchange (hl : t.flags.lists = s.flags.lists) (hu : s.SameUnits t)
    (hb : s.lanesPlaced → ∀ j : Fin 8, s.lanes[j].Becomes t.lanes[j]) (ho : t.ownerInExchange) : s.Follows t :=
  .of_becomes hl hb (fun _ => ho) hu.receiveConsistent hu.windowsInside

/-- The exchange closes, and its lane takes the outcome (R69). -/
theorem State.closeExchange_follows (s : State) : s.Follows s.closeExchange := by
  cases hx : s.sched.exchange with
  | none => rw [State.closeExchange, hx]; exact .refl s
  | some x =>
    cases ho : x.owner with
    | announce | beacon =>
      rw [State.closeExchange_station hx (by simp [ho])]
      have hclosed : s.Follows { s with sched := { s.sched with exchange := none } } :=
        .of_exchange rfl (.of_eq rfl rfl rfl) (fun _ j => .refl _) (fun y hy => by cases hy)
      exact hclosed.trans (State.drainTest_follows _)
    | lane i =>
      rw [State.closeExchange_lane hx ho]
      have hclosed (m : Option (Fin 8)) : s.Follows
          (({ s with sched := { s.sched with exchange := none, reoffer := m } } : State).setLane i
            (s.lanes[i].takeOutcome x.handed)) := by
        refine .of_exchange rfl (.of_eq rfl rfl rfl) (fun hp j => ?_) fun y hy => by cases hy
        have howner : s.lanes[i].state = .exchange := hp.owner x hx i ho
        rw [State.lanes_setLane_get]
        split
        · subst_vars; exact Lane.takeOutcome_becomes (.inr (.inl howner)) _
        · exact .refl _
      exact (hclosed _).trans (State.drainTest_follows _)

/-- A chosen lane has a frame on offer (R58, R59). -/
theorem State.hasFrame_of_choose (h : s.choose = some (.lane i)) : s.lanes[i].hasFrame := by
  have hcancel {j : Fin 8} (hj : s.offersCancel j = true) : s.lanes[j].hasFrame :=
    .inr (.inr (.inr ((s.offersCancel_iff j).mp hj).1))
  have hframe {j : Fin 8} (hj : s.offersFrame j = true) : s.lanes[j].hasFrame := .inl ((s.offersFrame_iff j).mp hj).1
  unfold State.choose at h
  split at h
  · cases h
  split at h
  · rename_i j hj
    cases h
    unfold State.reoffered at hj
    split at hj
    · split at hj <;> cases hj
      rename_i hoffers
      exact (Bool.or_eq_true _ _ ▸ hoffers).elim hcancel hframe
    · cases hj
  split at h
  · cases h; exact hcancel (List.find?_some ‹_›)
  split at h
  · cases h; exact hframe (List.find?_some ‹_›)
  · split at h <;> cases h

theorem State.beginFrame_follows {o : Owner} (h : s.choose = some o) : s.Follows (s.beginFrame o) := by
  cases o with
  | announce | beacon =>
    refine .of_exchange rfl (.of_eq rfl rfl rfl) (fun _ j => .refl _) fun x hx j hj => ?_
    cases hx
    cases hj
  | lane i =>
    have hlane (j : Fin 8) : (s.beginFrame (.lane i)).lanes[j] = if j = i then s.lanes[i].chosen else s.lanes[j] :=
      State.lanes_updateLane_get _ i j _
    refine .of_exchange rfl (.of_eq rfl rfl rfl) (fun _ j => ?_) fun x hx j hj => ?_
    · rw [hlane]
      split
      · subst_vars; exact Lane.chosen_becomes (State.hasFrame_of_choose h)
      · exact .refl _
    · cases hx
      cases hj
      rw [hlane, if_pos rfl]
      rfl

theorem State.turn_follows (s : State) : s.Follows s.turn := by
  unfold State.turn
  split
  · exact .refl s
  · split
    · exact State.beginFrame_follows ‹_›
    · exact .refl s

theorem State.slotStarts_follows (s : State) : s.Follows s.slotStarts := by
  have hslot : s.Follows (s.inSlot (s.line.nextPhase s.ctl.count)) := .beside s
  unfold State.slotStarts
  simp only
  split
  · exact hslot.trans (State.turn_follows _)
  · exact hslot

/-! ### Timers and the event queue -/

theorem State.contextExpires_follows (s : State) (i : Fin 12) : s.Follows (s.contextExpires i) := by
  unfold State.contextExpires
  simp only
  split
  · exact s.settleTake_follows.trans (State.abandon_follows s.settleTake_take i _)
  · exact .refl s

theorem State.presenceExpires_follows (s : State) (p : Fin 32) : s.Follows (s.presenceExpires p) := by
  unfold State.presenceExpires
  split
  · have habsent (x : PresenceTable) : s.settleTake.Follows
        { s.settleTake with presence := x, recv := s.settleTake.recv.absentOrder p } :=
      State.Follows.trans (.beside (p := x) s.settleTake)
        (.receives (s := { s.settleTake with presence := x }) s.settleTake_take
          fun hr => ReceiveUnit.abandonAll_consistent hr _ _)
    exact s.settleTake_follows.trans (habsent _)
  · exact .refl s

theorem State.takeAndFill_follows (s : State) : s.Follows s.takeAndFill := by
  unfold State.takeAndFill
  split
  · exact (State.take_follows ‹_›).fill
  · exact .refl s

/-! ### The command slot (R24, R25, R76, R93, R104, R105, R111 to R113, R131, R132) -/

theorem State.doJoin_follows (s : State) : s.Follows s.doJoin.1 := by
  unfold State.doJoin
  repeat' split
  · exact .refl s
  · exact .refl s
  · have hjoined : s.Follows { s with ctl := s.ctl.joined, sched := { s.sched with pendingAnnounce := true } } :=
      .of_same ⟨rfl, rfl, rfl⟩ (.of_eq rfl rfl rfl)
    have hcounter (l : Lane) : l.MovesTo { l with messageCounter := 0 } := ⟨.of_staying rfl rfl rfl id, id⟩
    dsimp only
    exact hjoined.trans (.mapLanes fun j => hcounter _)

theorem State.doLeave_follows (s : State) : s.Follows s.doLeave.1 := by
  unfold State.doLeave
  split
  · exact .refl s
  · have hdeparts {u : State} (hu : s.Follows u) :
        s.Follows ({ u with ctl := { u.ctl.record .leave with participation := .leaving } } : State).drainTest :=
      (hu.trans (.beside u)).trans (State.drainTest_follows _)
    simp only
    split
    · exact hdeparts s.settleTake_follows
    · exact hdeparts (.refl s)
  · exact s.enterOffline_follows _
  · exact s.enterOffline_follows _

theorem State.doStartLane_follows (s : State) : s.Follows s.doStartLane.1 := by
  unfold State.doStartLane
  simp only
  repeat' split
  · exact .refl s
  · exact .refl s
  · exact .refl s
  · rename_i i _ ha hidle
    have hs : s.lanes[i].state = .idle := Decidable.of_not_not hidle
    exact .setLane fun _ => (Lane.started_becomes hs (Nat.le_of_not_lt ha)).moves fun hx => by rw [hs] at hx; cases hx

theorem State.doStopLane_follows (s : State) : s.Follows s.doStopLane.1 := by
  unfold State.doStopLane
  repeat' split
  · exact .refl s
  · exact .refl s
  · rename_i i _ _
    refine .setLane fun _ => ⟨s.lanes[i].stop_becomes, fun hx => ?_⟩
    simp only [Lane.stop, hx]

/-- A change of one port with the take settled. -/
theorem State.Follows.port (s : State) (p : Fin 16) {f : Port → Port}
    (hf : ∀ x : Port, ∀ b ∈ (f x).posted, b ∈ x.posted ∨ b.inside) :
    s.Follows { s.settleTake with recv := s.settleTake.recv.updatePort p f } :=
  s.settleTake_follows.trans (.receives s.settleTake_take fun hr => ReceiveUnit.updatePort_consistent hr p f (hf _))

theorem State.doOpenPort_follows (s : State) : s.Follows s.doOpenPort.1 := by
  unfold State.doOpenPort
  split
  · exact .refl s
  · exact .port s _ fun _ _ hb => .inl hb

theorem State.doClosePort_follows (s : State) : s.Follows s.doClosePort.1 := by
  unfold State.doClosePort
  split
  · exact .refl s
  · rename_i p _
    refine s.settleTake_follows.trans (.receives s.settleTake_take fun hr => ?_)
    have hclosed := ReceiveUnit.updatePort_consistent hr p (fun x => { x with isOpen := false }) fun _ hb => .inl hb
    exact ReceiveUnit.updatePort_consistent (ReceiveUnit.abandonAll_consistent hclosed .closed fun c => c.port == p) p _
      fun _ hb => by cases hb

theorem State.doPostReceive_follows (s : State) : s.Follows s.doPostReceive.1 := by
  unfold State.doPostReceive
  simp only
  repeat' split
  · exact .refl s
  · exact .refl s
  · exact .refl s
  · rename_i hp _
    refine .port s _ fun x b hb => ?_
    rcases List.mem_append.mp hb with hb | hb
    · exact .inl hb
    · rw [List.mem_singleton.mp hb]
      exact .inr (Nat.le_of_not_lt fun h => hp (.inr (.inr (.inr h))))

/-- A window entry changes and lies inside buffer memory. -/
theorem State.Follows.window (s : State) (w : Fin 8) {f : Window → Window}
    (hf : s.windows[w].base + s.windows[w].length ≤ Config.memoryWords →
      (f s.windows[w]).base + (f s.windows[w]).length ≤ Config.memoryWords) : s.Follows (s.updateWindow w f) := by
  refine .of_units ⟨rfl, rfl, rfl⟩ id fun h v => ?_
  rw [State.windows_updateWindow_get]
  split
  · subst_vars; exact hf (h _)
  · exact h v

theorem State.doLoadWindow_follows (s : State) : s.Follows s.doLoadWindow.1 := by
  unfold State.doLoadWindow
  simp only
  repeat' split
  · exact .refl s
  · exact .refl s
  · rename_i hp
    dsimp only
    exact s.settleTake_follows.trans (.window _ _ fun _ => Nat.le_of_not_lt fun h => hp (.inr (.inr (.inr h))))

theorem State.doClearWindow_follows (s : State) : s.Follows s.doClearWindow.1 := by
  unfold State.doClearWindow
  split
  · exact .refl s
  · dsimp only
    exact s.settleTake_follows.trans (.window _ _ id)

/-! ### One bit time -/

theorem Lane.tick_becomes (l : Lane) (micro : Bool) : l.MovesTo (l.tick micro) := ⟨.of_staying rfl rfl rfl id, id⟩

/-- The context timers count (R122). -/
theorem ReceiveUnit.tick_get (r : ReceiveUnit) (i : Fin 12) :
    (r.contexts.map fun c => c.map Context.tick)[i] = r.contexts[i].map Context.tick := by
  simp

theorem ReceiveUnit.tick_consistent {r : ReceiveUnit} (h : r.consistent) :
    ({ r with contexts := r.contexts.map fun c => c.map Context.tick } : ReceiveUnit).consistent := by
  refine ReceiveUnit.consistent_of_fewer h (fun p b hb => .inl hb) fun i c hc => ?_
  obtain ⟨d, hd, rfl⟩ := Option.map_eq_some_iff.mp ((r.tick_get i).symm.trans hc)
  exact ⟨d, _, hd, rfl⟩

theorem ReceiveUnit.tick_storeFits {r : ReceiveUnit} {j : Fin 12} {c : Context} {opens : Bool}
    (h : r.storeFits j c opens) :
    ({ r with contexts := r.contexts.map fun c => c.map Context.tick } : ReceiveUnit).storeFits j c opens := by
  obtain ⟨hwhole, hentry⟩ := h
  refine ⟨hwhole, ?_⟩
  cases opens with
  | true =>
    obtain ⟨hnone, hhead, hkeys⟩ := hentry
    refine ⟨by rw [ReceiveUnit.tick_get, hnone]; rfl, hhead, fun k e he => ?_⟩
    obtain ⟨d, hd, rfl⟩ := Option.map_eq_some_iff.mp ((r.tick_get k).symm.trans he)
    exact hkeys k d hd
  | false =>
    obtain ⟨d, hd, hsame⟩ := hentry
    exact ⟨d.tick, by rw [ReceiveUnit.tick_get, hd]; rfl, hsame⟩

theorem State.tick_receiveConsistent (h : s.receiveConsistent) : s.tick.receiveConsistent := by
  unfold State.tick
  split
  · exact h
  · obtain ⟨hr, hfits⟩ := (State.receiveConsistent_iff s).mp h
    refine (State.receiveConsistent_iff _).mpr ⟨ReceiveUnit.tick_consistent hr, fun k rest j c opens hk hw => ?_⟩
    obtain ⟨k', hk', rfl⟩ := Option.map_eq_some_iff.mp hk
    exact ReceiveUnit.tick_storeFits (hfits k' rest j c opens hk' hw)

theorem State.tick_follows (s : State) : s.Follows s.tick := by
  by_cases hr : s.resetHeld = true
  · rw [State.tick, if_pos hr]; exact .refl s
  have hlane (j : Fin 8) : s.lanes[j].MovesTo s.tick.lanes[j] := by
    have hj : s.tick.lanes[j] = s.lanes[j].tick s.microEnds := by rw [State.tick, if_neg hr]; simp
    rw [hj]
    exact Lane.tick_becomes _ _
  refine .of_becomes (by rw [State.tick, if_neg hr]) (fun _ j => (hlane j).toBecomes) (fun h => ?_)
    State.tick_receiveConsistent ?_
  · exact State.ownerInExchange_of_same h.owner (by rw [State.tick, if_neg hr]) fun j => (hlane j).exchange
  · rw [State.tick, if_neg hr]
    exact id

end Sys2Proof.Machine
end

section
/-! Every step keeps the lanes placed and the accesses inside buffer memory, and so no run faults (R62, R78, R92, R98,
R111, R131, R133). -/

namespace Sys2Proof.Machine

variable {s t : State} {c : Instr}

/-! ### Commands that answer -/

/-- A command answers a next state where the accesses of `s` are inside buffer memory, and its next state follows. -/
structure State.Steps (s : State) (o : Host.Outcome State Fault Refusal) : Prop where
  answered : s.accessesInside → ∃ t, o = .next t
  follows : ∀ t, o = .next t → s.Follows t

theorem State.Follows.steps (h : s.Follows t) : s.Steps (.next t) :=
  ⟨fun _ => ⟨t, rfl⟩, fun _ ht => by cases ht; exact h⟩

theorem event_steps {f : State → State} (h : s.Follows (f s)) : s.Steps (event s f) := by
  refine State.Follows.steps ?_
  split
  · exact .refl s
  · exact h

theorem eventWithAccess_steps {f : State → Except Fault State} (h : s.Answers (f s)) :
    s.Steps (eventWithAccess s f) := by
  unfold eventWithAccess
  split
  · exact (State.Follows.refl s).steps
  · cases hf : f s with
    | error e =>
      refine ⟨fun hs => ?_, fun t ht => by cases ht⟩
      obtain ⟨t, ht⟩ := h.answered hs
      rw [hf] at ht
      cases ht
    | ok t => exact (h.follows t hf).steps

theorem takeCommand_steps {named : BitVec 8 → Bool} {f : State → State × CommandResult} (h : s.Follows (f s).1) :
    s.Steps (takeCommand s named f) := by
  refine event_steps ?_
  dsimp only
  split
  · have hcompleted {x : HostPort} : (f s).1.Follows { (f s).1 with host := x } := .beside _
    exact (h.trans hcompleted).fill
  · exact .refl s

/-! ### Resets -/

theorem reset_windowsInside : State.reset.windowsInside := fun w => by rw [reset_window]; decide

/-- After a reset every condition holds, whatever held before. -/
theorem State.resetKeeping_follows (s : State) (epoch : BitVec 4) (cells : List (Nat × Word)) (waiting : List Instr) :
    s.Follows (State.resetKeeping epoch cells waiting) where
  placed _ := reset_lanesPlaced
  inside _ _ i := by
    have hlane : (State.resetKeeping epoch cells waiting).lanes[i] = Lane.reset := reset_lane i
    rw [hlane]
    exact reset_laneAccesses
  receive _ := State.receiveConsistent_of_idle rfl reset_receiveConsistent.unit
  windows _ := reset_windowsInside

/-! ### Every command -/

theorem exec_steps (c : Instr) (s : State) : s.Steps (exec c s) := by
  have activity {x : LineInterface} : s.Follows { s with line := x, ctl := s.ctl.activity } := .beside s
  unfold exec
  cases c with
  | powerOnReset => exact (s.resetKeeping_follows 0 [] s.pending).steps
  | pinReset => exact (s.resetKeeping_follows s.ctl.epoch s.mem.cells s.pending).steps
  | resetRelease sid scn srt =>
    refine State.Follows.steps ?_
    split
    · exact .beside s
    · exact .refl s
  | frameDelivery f => exact eventWithAccess_steps (s.frameDelivered_answers f)
  | laneWordAccess => exact eventWithAccess_steps s.serveClaim_answers
  | firstActiveHalfBit =>
    refine event_steps ?_
    split
    · exact activity
    · exact .refl s
  | lineDisturbance =>
    refine event_steps ?_
    split
    · exact (activity.trans (State.observedCollision_follows _)).fill
    · exact .refl s
  | readBackMismatch =>
    refine event_steps ?_
    repeat' split
    · exact (s.collide_follows _).fill
    · exact .refl s
    · exact .refl s
  | jamEnd released =>
    refine event_steps ?_
    split
    · exact activity
    · exact .refl s
  | lineIdle => exact event_steps (.beside s)
  | stuckCondition =>
    refine event_steps ?_
    split
    · exact ((activity.trans (.mapExchange _ ExchangeRecord.stuck_owner)).trans (State.stuckNotice_follows _)).fill
    · exact .refl s
  | stuckConditionEnd =>
    refine event_steps ?_
    split
    · exact .beside s
    · exact .refl s
  | exchangeEnd =>
    refine event_steps ?_
    split
    · have hended : s.Follows { s with line := s.line.exchangeEnds } := .beside s
      exact (hended.trans (State.closeExchange_follows _)).fill
    · exact .refl s
  | drainComplete => exact event_steps s.drainTest_follows.fill
  | slotStart =>
    refine event_steps ?_
    split
    · exact s.slotStarts_follows
    · exact .refl s
  | replyStart =>
    refine event_steps ?_
    repeat' split
    · exact activity
    · exact .beside s
    · exact .refl s
  | ownFrameCompletion =>
    refine event_steps ?_
    repeat' split
    · exact s.ownFrameEnds_follows _
    · exact .refl s
    · exact .refl s
  | silenceTimerExpiry => exact event_steps s.silenceExpires_follows.fill
  | beaconTimerExpiry => exact event_steps s.beaconExpires_follows
  | holdTimerExpiry i =>
    refine event_steps ?_
    split
    · rename_i h
      obtain ⟨hs, -⟩ := h
      exact .setLane fun _ => (Lane.requeue_becomes (.inr (.inr (.inl hs))) (.refl _)).moves fun hx => by
        rw [hs] at hx; cases hx
    · exact .refl s
  | waitTimerExpiry i => exact event_steps (s.waitTimerExpires_follows i)
  | waitExpiryTake i => exact event_steps (s.takeExpiry_follows i)
  | waitRequestTake i => exact event_steps (s.takeWaitRequest_follows i)
  | flagRequestTake i => exact event_steps (s.takeFlagRequest_follows i)
  | waitRemovalTake i => exact event_steps (s.takeRemoval_follows i)
  | contextTimerExpiry i => exact event_steps (s.contextExpires_follows i).fill
  | presenceTimerExpiry p => exact event_steps (s.presenceExpires_follows p).fill
  | queueTake => exact event_steps s.takeAndFill_follows
  | hostMemoryWrite a strobe => exact event_steps (s.hostStrobe_follows a strobe)
  | writeCauses v | controlPageWrite page v | writeInterruptEnables v | eventAcknowledge v | commandWordWrite v
  | timeBaseLowRead => exact event_steps (s.hostAccess_follows _)
  | join => exact takeCommand_steps s.doJoin_follows
  | leave => exact takeCommand_steps s.doLeave_follows
  | startLane => exact takeCommand_steps s.doStartLane_follows
  | stopLane => exact takeCommand_steps s.doStopLane_follows
  | openPort => exact takeCommand_steps s.doOpenPort_follows
  | closePort => exact takeCommand_steps s.doClosePort_follows
  | postReceive => exact takeCommand_steps s.doPostReceive_follows
  | loadWindow => exact takeCommand_steps s.doLoadWindow_follows
  | clearWindow => exact takeCommand_steps s.doClearWindow_follows
  | setFlags => exact takeCommand_steps (s.setFlagMask_follows _)
  | clearFlags => exact takeCommand_steps (s.clearFlagMask_follows _)
  | setSignalMasks => exact takeCommand_steps (.masks s rfl)
  | unknownCommand => exact takeCommand_steps (.refl s)

/-- A step is a command with the queue's rest, or one bit time (log 1, log 4). -/
theorem step_steps (s : State) : s.Steps (step s) := by
  unfold step
  split
  · exact s.tick_follows.steps
  · rename_i c rest _
    have hrest : s.Follows { s with pending := rest } := .beside s
    have hexec := exec_steps c { s with pending := rest }
    exact ⟨fun hs => hexec.answered (hrest.accessesInside hs), fun t ht => hrest.trans (hexec.follows t ht)⟩

/-- Settles O59: every step answers from inside, and its next state follows. -/
theorem everyStepKeepsAccessesInside : Obligations.EveryStepKeepsAccessesInside := by
  refine ⟨fun s t h => ?_, fun s hs => ?_⟩
  · have hfollows := (step_steps s).follows t h
    exact ⟨hfollows.placed, hfollows.windows, hfollows.receive⟩
  · obtain ⟨t, ht⟩ := (step_steps s).answered hs
    exact ⟨t, ht, ((step_steps s).follows t ht).accessesInside hs⟩

end Sys2Proof.Machine
end

section
/-! The flag unit's takes of a wait request and of a FLAG request (R88, R100, R101). -/

namespace Sys2Proof.Machine

variable {s : State} {i : Fin 8}

/-! ### Clearing a flag -/

/-- A clear makes its own flag clear and leaves every other (R100). -/
theorem FlagUnit.clear_isSet (u : FlagUnit) (f g : Fin 32) :
    (u.clear f).isSet g = if g = f then false else u.isSet g := by
  have hg := g.isLt
  rw [FlagUnit.isSet, FlagUnit.clear, BitVec.getLsbD_and, BitVec.getLsbD_not, member_getLsbD]
  by_cases h : g = f
  · simp [h]
  · simp [h, Ne.symm h, hg, FlagUnit.isSet]

/-! ### What each take does -/

theorem exec_waitRequestTake (h : s.resetHeld = false) (i : Fin 8) :
    exec (.waitRequestTake i) s = .next (s.takeWaitRequest i) :=
  event_running h fun s => s.takeWaitRequest i

/-- A wait request on a set flag is satisfied at once, and one with consume clears the flag (R101). -/
theorem exec_waitRequestTake_set (h : s.resetHeld = false) (hw : s.lanes[i].state = .working)
    (hj : s.lanes[i].job = .waitRequest) (hf : s.flags.isSet s.lanes[i].flag = true) :
    exec (.waitRequestTake i) s = .next ({ s with
      flags := if s.lanes[i].consume then s.flags.clear s.lanes[i].flag else s.flags
      lanes := s.lanes.set i (s.lanes[i].finish .done) }) := by
  simp only [exec_waitRequestTake h, State.takeWaitRequest]
  rw [if_pos ⟨hw, hj⟩, if_pos hf]
  cases s.lanes[i].consume <;> rfl

/-- A wait request on a clear flag puts the lane at the tail of the flag's list (R101). -/
theorem exec_waitRequestTake_clear (h : s.resetHeld = false) (hw : s.lanes[i].state = .working)
    (hj : s.lanes[i].job = .waitRequest) (hf : s.flags.isSet s.lanes[i].flag = false) :
    exec (.waitRequestTake i) s = .next (({ s with
      flags := s.flags.enqueue s.lanes[i].flag { lane := i, consume := s.lanes[i].consume } } : State).updateLane i
        Lane.enterWait) := by
  simp only [exec_waitRequestTake h, State.takeWaitRequest]
  rw [if_pos ⟨hw, hj⟩, if_neg (Bool.eq_false_iff.mp hf)]

/-- A FLAG request is carried out, and its lane goes on to write DONE (R88). -/
theorem exec_flagRequestTake (h : s.resetHeld = false) (hw : s.lanes[i].state = .working)
    (hj : s.lanes[i].job = .flagRequest) :
    exec (.flagRequestTake i) s = .next ((if s.lanes[i].setsFlag then s.setFlag s.lanes[i].flag
      else s.clearFlag s.lanes[i].flag).updateLane i fun l => l.finish .done) :=
  (event_running h _).trans (congrArg _ (if_pos ⟨hw, hj⟩))

/-- The time limit of a WAIT is its word D3, and 0 is none. -/
theorem Lane.timeLimit_eq_zero (l : Lane) : l.timeLimit = 0 ↔ l.copy[3] = 0 :=
  ⟨fun h => BitVec.eq_of_toNat_eq h, fun h => congrArg BitVec.toNat h⟩

/-! ### The obligations -/

/-- Settles O20: the two cases of the flag. -/
theorem waitRequestIsTaken : Obligations.WaitRequestIsTaken := by
  intro s i h hw hj l f
  refine ⟨fun hf => ⟨_, exec_waitRequestTake_set h hw hj hf, ?_, fun g => ?_⟩, fun hf => ?_⟩
  · cases s.lanes[i].consume <;> rfl
  · show (if l.consume then s.flags.clear f else s.flags).isSet g = _
    cases l.consume with
    | true => simpa using s.flags.clear_isSet f g
    | false => simp
  · rw [exec_waitRequestTake_clear h hw hj hf, State.updateLane, State.setLane]
    simp only [Lane.enterWait, Lane.timeLimit_eq_zero]
    rfl

/-- Settles O23: a set with its releases, or a clear. -/
theorem flagRequestIsTaken : Obligations.FlagRequestIsTaken := by
  intro s i h hw hj
  rw [exec_flagRequestTake h hw hj]
  refine ⟨fun hs => ?_, fun hs => ⟨_, rfl, ?_, fun g => ?_⟩⟩
  · rw [if_pos hs]; rfl
  · rw [if_neg (Bool.eq_false_iff.mp hs)]; rfl
  · rw [if_neg (Bool.eq_false_iff.mp hs)]
    exact s.flags.clear_isSet s.lanes[i].flag g

end Sys2Proof.Machine
end

section
/-! The end of a descriptor's fetch: IN PROGRESS, the judgement of the copy, and the start of its work (R77 to R79,
R84 to R89, R94). -/

namespace Sys2Proof.Machine

variable {s : State} {l : Lane} {i : Fin 8} {c : StationController} {active absent : Bool}

/-! ### Bad descriptors (R78) -/

theorem Lane.badDestination_eq_false (l : Lane) (c : StationController) :
    l.badDestination c = false ↔ c.count ≠ 1 ∧ l.destination.val < c.count ∧ l.destination ≠ c.number := by
  simp [Lane.badDestination, and_assoc]

theorem Lane.bad_send (hk : l.kind = some .send) :
    l.bad c = false ↔
      1 ≤ l.length ∧ l.length ≤ 2048 ∧ l.bufferAddress + l.length ≤ Config.memoryWords ∧
        l.badDestination c = false := by
  simp [Lane.bad, hk, and_assoc, Nat.one_le_iff_ne_zero]

theorem Lane.bad_window (hk : l.kind = some .read ∨ l.kind = some .write) :
    l.bad c = false ↔ 1 ≤ l.length ∧ l.length ≤ 16 ∧ l.bufferAddress + l.length ≤ Config.memoryWords ∧ l.window ≤ 7 ∧
      l.badDestination c = false := by
  rcases hk with hk | hk <;> simp [Lane.bad, hk, and_assoc, Nat.one_le_iff_ne_zero]

theorem Lane.bad_signal (hk : l.kind = some .signal) :
    l.bad c = false ↔ l.all = true ∨ l.badDestination c = false := by
  cases hall : l.all <;> simp [Lane.bad, hk, hall]

theorem Lane.bad_wait (hk : l.kind = some .wait) : l.bad c = false ↔ l.alternate ≤ Config.lastDescriptor := by
  simp [Lane.bad, hk]

/-- Settles O26, kind by kind. -/
theorem badDescriptors : Obligations.BadDescriptors := by
  intro l c elsewhere
  refine ⟨fun hk => ?_, fun hk => ?_, fun hk => ?_, fun hk => ?_, fun hk => Lane.bad_wait hk, fun hk => ?_⟩
  · rw [Lane.bad, hk]
  · rw [Lane.bad_send hk, Lane.badDestination_eq_false]; rfl
  · rw [Lane.bad_window hk, Lane.badDestination_eq_false]; rfl
  · rw [Lane.bad_signal hk, Lane.badDestination_eq_false]
  · rcases hk with hk | hk <;> rw [Lane.bad, hk]

/-! ### What the fetch ends in (R78, R94) -/

theorem Lane.fetched_stopped (hs : l.stopMark = true) :
    l.fetched i c absent = { l with lastReply := none, segment := 0, validated := false }.finish .stopped := if_pos hs

theorem Lane.fetched_bad (hs : l.stopMark = false) (hb : l.bad c = true) :
    l.fetched i c absent =
      { l with lastReply := none, segment := 0, validated := false }.finish .badDescriptor :=
  (if_neg (Bool.eq_false_iff.mp hs)).trans (if_pos hb)

theorem Lane.fetched_valid (hs : l.stopMark = false) (hb : l.bad c = false) :
    l.fetched i c absent =
      { l with lastReply := none, segment := 0, validated := true }.start i
        (c.participation == Participation.active) absent :=
  (if_neg (Bool.eq_false_iff.mp hs)).trans (if_neg (Bool.eq_false_iff.mp hb))

/-! ### The start check (R79) -/

theorem Lane.start_offline (hl : l.lineDescriptor = true) : l.start i false absent = l.finish .offline := by
  rw [Lane.start, hl]; rfl

theorem Lane.start_peerAbsent (hl : l.lineDescriptor = true) : l.start i true true = l.finish .peerAbsent := by
  rw [Lane.start, hl]; rfl

/-- A descriptor that is no line descriptor passes the start check anywhere. -/
theorem Lane.start_local (hl : l.lineDescriptor = false) : l.start i active absent = l.start i true false := by
  rw [Lane.start, Lane.start, hl]; rfl

theorem Lane.start_send (hk : l.kind = some .send) : l.start i true false = l.startSend := by
  simp [Lane.start, hk]

theorem Lane.start_read (hk : l.kind = some .read) :
    l.start i true false = l.passStart.offer (l.windowFrame .read []) := by
  simp [Lane.start, hk]

theorem Lane.start_write (hk : l.kind = some .write) :
    l.start i true false = { l.passStart with job := .readPayload [] } := by
  simp [Lane.start, hk]

theorem Lane.start_addressedSignal (hk : l.kind = some .signal) (hall : l.all = false) :
    l.start i true false = l.passStart.offer
      { head := { kind := .signal, destination := l.destination, all := false, selector := l.flag, h2 := 0, h3 := 0 }
        payload := [] } := by
  simp [Lane.start, Lane.signalFrame, hk, hall]

theorem Lane.start_broadcastSignal (hk : l.kind = some .signal) (hall : l.all = true) :
    l.start i true false = { l with retries := 3 }.offer
      { head := { kind := .signal, destination := 0, all := true, selector := l.flag, h2 := 0, h3 := 0 }
        payload := [] } := by
  simp [Lane.start, Lane.signalFrame, hk, hall]

theorem Lane.start_wait (hk : l.kind = some .wait) : l.start i true false = { l with job := .waitRequest } := by
  simp [Lane.start, hk]

theorem Lane.start_flag (hk : l.kind = some .flag) : l.start i true false = { l with job := .flagRequest } := by
  simp [Lane.start, hk]

theorem Lane.start_note (hk : l.kind = some .note) : l.start i true false = l.post (l.noteEvent i) .afterNote := by
  simp [Lane.start, hk]

/-! ### The access at which the fetch ends (R77) -/

/-- The state after IN PROGRESS has been written, the lane judged and started. -/
def State.fetchEnded (s : State) (i : Fin 8) : State :=
  s.laneStored i (s.lanes[i].address + 7) (statusWord .inProgress) fun l =>
    l.fetched i s.ctl (s.isAbsent l.destination)

/-- IN PROGRESS is stored at D7, and the lane goes on (R77). -/
theorem State.laneAccess_markInProgress (hj : s.lanes[i].job = .markInProgress) (ha : s.lanes[i].address ≤ 16376) :
    ({ s with mem := { s.mem with lanePointer := i } } : State).laneAccess i = .ok (s.fetchEnded i) := by
  have hinside : s.lanes[i].address + 7 < Config.memoryWords := by rw [Config.memoryWords]; omega
  rw [State.laneAccess]
  simp only [hj]
  exact State.laneStores_ok hinside _ _

/-- Settles O25: the access, then the lane by the judgement, the start check and its kind. -/
theorem fetchEndsInProgress : Obligations.FetchEndsInProgress := by
  intro s i h hi hj ha l m
  have hlane : (s.fetchEnded i).lanes[i] = l.fetched i s.ctl (s.isAbsent l.destination) :=
    State.laneStored_lane s i _ _ _
  refine ⟨s.fetchEnded i, exec_laneWordAccess h hi (State.laneAccess_markInProgress hj ha), ?_, rfl, ?_,
    fun a hne => ?_, fun hs => ?_, fun hs hb => ?_, fun hs hb => ?_⟩
  · rw [hlane]; rfl
  · exact (State.laneStored_word s i _ _ _ _).trans (if_pos rfl)
  · exact (State.laneStored_word s i _ _ _ _).trans (if_neg hne)
  · rw [hlane]; exact Lane.fetched_stopped hs
  · rw [hlane]; exact Lane.fetched_bad hs hb
  · intro v
    have hstart : (s.fetchEnded i).lanes[i] =
        v.start i (s.ctl.participation == .active) (s.isAbsent l.destination) :=
      hlane.trans (Lane.fetched_valid hs hb)
    have hpasses (hp : s.ctl.participation = .active) (hr : s.presence.records[l.destination].state ≠ .absent) :
        (s.fetchEnded i).lanes[i] = v.start i true false := by
      rw [hstart, State.isAbsent, beq_iff_eq.mpr hp, beq_eq_false_iff_ne.mpr hr]
    have hlocal (hl : l.lineDescriptor = false) : (s.fetchEnded i).lanes[i] = v.start i true false :=
      hstart.trans (Lane.start_local hl)
    refine ⟨fun hl hp => ?_, fun hl hp hr => ?_, fun hp hr hk => ?_, fun hp hr => ⟨fun hk => ?_, fun hk => ?_,
      fun hk hall => ?_⟩, fun hk hall => ?_, fun hk => ?_, fun hk => ?_, fun hk => ?_⟩
    · rw [hstart, beq_eq_false_iff_ne.mpr hp]; exact Lane.start_offline hl
    · rw [hstart, State.isAbsent, beq_iff_eq.mpr hp, beq_iff_eq.mpr hr]; exact Lane.start_peerAbsent hl
    · exact (hpasses hp hr).trans (Lane.start_send hk)
    · exact (hpasses hp hr).trans (Lane.start_read hk)
    · exact (hpasses hp hr).trans (Lane.start_write hk)
    · exact (hpasses hp hr).trans (Lane.start_addressedSignal hk hall)
    · exact (hlocal (by rw [Lane.lineDescriptor, hk, hall]; rfl)).trans (Lane.start_broadcastSignal hk hall)
    · exact (hlocal (by rw [Lane.lineDescriptor, hk])).trans (Lane.start_wait hk)
    · exact (hlocal (by rw [Lane.lineDescriptor, hk])).trans (Lane.start_flag hk)
    · rw [hlocal (by rw [Lane.lineDescriptor, hk]), Lane.start_note (l := v) hk]
      exact ⟨rfl, rfl⟩

end Sys2Proof.Machine
end

section
/-! The paths after a descriptor, and the outcomes of a SEND segment's exchange (R80 to R83, R91). -/

namespace Sys2Proof.Machine

variable {l : Lane} {i : Fin 8} {st : Status} {o : ExchangeOutcome}

/-! ### Paths (R91) -/

theorem Lane.takePath_badDescriptor : l.takePath i .badDescriptor = l.endChain i .badDescriptor := rfl

theorem Lane.takePath_stopped (hb : st ≠ .badDescriptor) (hs : l.stopMark = true) :
    l.takePath i st = l.endChain i .stopped := by
  rw [Lane.takePath, if_neg hb, if_pos hs]

/-- Past a bad descriptor and a stop mark, a failure without continue-on-failure ends the chain. -/
theorem Lane.takePath_unstopped (hb : st ≠ .badDescriptor) (hs : l.stopMark = false) :
    l.takePath i st =
      if st.failure = true ∧ l.continueOnFailure = false then l.endChain i .failed
      else if l.stopAfter then l.endChain i .completed
      else l.follow i (if st = .expired then l.alternate else l.next) := by
  rw [Lane.takePath, if_neg hb, if_neg (Bool.eq_false_iff.mp hs)]
  simp only [Bool.and_eq_true, Bool.not_eq_true', apply_ite (l.follow i)]

theorem Lane.follow_badLink {a : Nat} (h : 16376 < a) : l.follow i a = l.endChain i .badLink := if_pos h

theorem Lane.follow_link {a : Nat} (h : a ≤ 16376) : l.follow i a = l.fetchAt a := if_neg (Nat.not_lt.mpr h)

/-- Settles O29, in the order of the paths. -/
theorem pathsAfterADescriptor : Obligations.PathsAfterADescriptor := by
  intro l i st ends link
  refine ⟨fun hb => ?_, fun hb hs => Lane.takePath_stopped hb hs, fun hb hs hf hc => ?_, fun hb hs hf => ?_⟩
  · rw [hb]; exact Lane.takePath_badDescriptor
  · exact (Lane.takePath_unstopped hb hs).trans (if_pos ⟨hf, hc⟩)
  · have hgoes : l.takePath i st = if l.stopAfter then l.endChain i .completed else l.follow i link := by
      rw [Lane.takePath_unstopped hb hs, if_neg]
      · rfl
      · rintro ⟨hfail, hstay⟩
        rcases hf with hf | hf
        · rw [hf] at hfail; cases hfail
        · rw [hf] at hstay; cases hstay
    rw [hgoes]
    refine ⟨fun ha => if_pos ha, fun ha hbad => ?_, fun ha hlink => ?_⟩
    · rw [if_neg (Bool.eq_false_iff.mp ha)]; exact Lane.follow_badLink hbad
    · rw [if_neg (Bool.eq_false_iff.mp ha)]; exact Lane.follow_link hlink

/-! ### Failing SENDs (R81, R83) -/

/-- A SEND that fails with segments accepted owes a cancel (R81). -/
theorem Lane.failSend_unstray (h : st = .busyExhausted ∨ st = .noAnswer ∨ st = .refused) :
    l.failSend st false = if 1 ≤ l.segment then l.oweCancel st else l.finish st := by
  simp only [Lane.failSend, h, and_true]

/-- After REFUSED-STRAY no cancel is owed (R81). -/
theorem Lane.failSend_stray : l.failSend st true = l.finish st :=
  if_neg fun ⟨_, _, hstray⟩ => Bool.noConfusion hstray

theorem Lane.takeOutcome_send (hc : l.cancelOwed = false) (hk : l.kind = some .send) (hs : l.stopMark = false)
    (ho : o ≠ .lineLost) : l.takeOutcome o = l.sendOutcome o := by
  unfold Lane.takeOutcome
  simp [hc, hk, hs, ho]

/-! ### Replies to a segment (R80 to R82) -/

theorem Lane.sendReply_accepted (l : Lane) :
    l.sendReply .accepted =
      if segmentCount l.length ≤ l.segment + 1 then l.advance.finish .done else l.advance.nextSegment := by
  simp only [Lane.sendReply, Lane.allSent_advance, decide_eq_true_eq]

theorem Lane.sendReply_busy {c : ReplyCode} (h : c = .busyNoBuffer ∨ c = .busyNoContext ∨ c = .busyPending) :
    l.sendReply c =
      if 0 < l.patience then
        { l with lastReply := some c, state := .held, job := .none, patience := l.patience - 1, hold := some 0 }
      else { l with lastReply := some c }.failSend .busyExhausted false := by
  rcases h with rfl | rfl | rfl <;> rfl

theorem Lane.sendReply_stray (l : Lane) :
    l.sendReply .refusedStray =
      { l with lastReply := some .refusedStray }.finish (if l.unanswered then .uncertain else .refused) := by
  simp only [Lane.sendReply, Lane.failSend_stray, apply_ite (Lane.finish _)]

theorem Lane.sendReply_refused {c : ReplyCode}
    (h : c = .refusedClosed ∨ c = .refusedLength ∨ c = .refusedMalformed) :
    l.sendReply c = { l with lastReply := some c }.failSend .refused false := by
  rcases h with rfl | rfl | rfl <;> rfl

/-- With no good reply the same frame is sent again while retries are left (R81). -/
theorem Lane.sendOutcome_silent (h : o = .noReply ∨ o = .badReply) :
    l.sendOutcome o =
      { l with unanswered := true }.retry ({ l with unanswered := true }.failSend .noAnswer false) := by
  rcases h with rfl | rfl <;> rfl

/-- Settles O30, outcome by outcome. -/
theorem sendOutcomes : Obligations.SendOutcomes := by
  intro l hk hs hc fails again
  have hsend {o : ExchangeOutcome} (ho : o ≠ .lineLost) : l.takeOutcome o = l.sendOutcome o :=
    Lane.takeOutcome_send hc hk hs ho
  have hreply (c : ReplyCode) (ws : List Word) : l.takeOutcome (.reply c ws) = l.sendReply c := hsend (by nofun)
  refine ⟨fun ws => ?_, fun c ws h => ?_, fun ws => ?_, fun o h => ?_, fun ws => ?_, fun c ws h => ?_, ?_, ?_⟩
  · rw [hreply, Lane.sendReply_accepted]; rfl
  · rw [hreply, Lane.sendReply_busy h, Lane.failSend_unstray (.inl rfl)]
  · rw [hreply, Lane.sendReply, Lane.failSend_unstray (.inr (.inl rfl))]; rfl
  · have hne : o ≠ .lineLost := by rcases h with rfl | rfl <;> nofun
    rw [hsend hne, Lane.sendOutcome_silent h, Lane.failSend_unstray (.inr (.inl rfl))]; rfl
  · rw [hreply, Lane.sendReply_stray]
  · rw [hreply, Lane.sendReply_refused h, Lane.failSend_unstray (.inr (.inr rfl))]
  · exact hsend (by nofun)
  · exact l.takeOutcome_lineLost

end Sys2Proof.Machine
end

section
/-! START LANE and STOP LANE (R76, R93, R166). -/

namespace Sys2Proof.Machine

variable {s : State} {l : Lane} {i : Fin 8}

/-! ### The lane that parameter 0 names (R167) -/

theorem numberBelow_none {n : Nat} {w : Word} (h : n ≤ w.toNat) : numberBelow n w = none := dif_neg (Nat.not_lt.mpr h)

theorem numberBelow_some {n : Nat} {w : Word} {k : Fin n} (h : w.toNat = k.val) : numberBelow n w = some k := by
  have hlt : w.toNat < n := h ▸ k.isLt
  rw [numberBelow, dif_pos hlt]
  exact congrArg some (Fin.ext h)

theorem State.paramLane_none (h : 7 < s.host.params[0].toNat) : s.paramLane = none := numberBelow_none h

theorem State.paramLane_some (h : s.host.params[0].toNat = i.val) : s.paramLane = some i := numberBelow_some h

/-! ### START LANE (R76) -/

theorem exec_startLane (h : s.commandWaits 3) :
    exec .startLane s = .next (s.doStartLane.1.completed s.doStartLane.2).fill :=
  takeCommand_waits h (code := 3) rfl State.doStartLane

theorem State.doStartLane_noLane (h : 7 < s.host.params[0].toNat) : s.doStartLane = (s, .badParameter) := by
  rw [State.doStartLane, State.paramLane_none h]

/-- START LANE at a lane: the address is judged, then the lane's state. -/
theorem State.doStartLane_lane (h : s.host.params[0].toNat = i.val) :
    s.doStartLane =
      if 16376 < s.host.params[1].toNat then (s, .badParameter)
      else if s.lanes[i].state ≠ .idle then (s, .laneBusy)
      else (s.updateLane i fun l => l.started s.host.params[1].toNat, .ok) := by
  rw [State.doStartLane, State.paramLane_some h]
  rfl

/-! ### STOP LANE (R93) -/

theorem exec_stopLane (h : s.commandWaits 4) :
    exec .stopLane s = .next (s.doStopLane.1.completed s.doStopLane.2).fill :=
  takeCommand_waits h (code := 4) rfl State.doStopLane

theorem State.doStopLane_noLane (h : 7 < s.host.params[0].toNat) : s.doStopLane = (s, .badParameter) := by
  rw [State.doStopLane, State.paramLane_none h]

theorem State.doStopLane_lane (h : s.host.params[0].toNat = i.val) :
    s.doStopLane = if s.lanes[i].state = .idle then (s, .notRunning) else (s.updateLane i Lane.stop, .ok) := by
  rw [State.doStopLane, State.paramLane_some h]

theorem Lane.stop_waiting (h : l.state = .waiting) :
    l.stop = { l with stopMark := true, removalHanded := true } := by
  rw [Lane.stop, h]

/-- A lane with a frame to send acts on its stop mark at once (R93). -/
theorem Lane.stop_acts (h : l.state = .queued ∨ l.state = .held) :
    l.stop = { l with stopMark := true }.stopWork := by
  rcases h with h | h <;> rw [Lane.stop, h]

theorem Lane.stopWork_owes (h : l.kind = some .send ∧ 1 ≤ l.segment) : l.stopWork = l.oweCancel .stopped := if_pos h

theorem Lane.stopWork_finishes (h : ¬(l.kind = some .send ∧ 1 ≤ l.segment)) : l.stopWork = l.finish .stopped := if_neg h

/-- A lane at work, in its exchange or reporting acts on its stop mark later (R93, R94). -/
theorem Lane.stop_marks (h : l.state = .exchange ∨ l.state = .cancelling ∨ l.state = .working ∨ l.state = .reporting) :
    l.stop = { l with stopMark := true } := by
  rcases h with h | h | h | h <;> rw [Lane.stop, h]

/-- A running lane has its stop mark set (R93). -/
theorem Lane.stop_stopMark (h : l.state ≠ .idle) : l.stop.stopMark = true := by
  cases hs : l.state with
  | idle => exact absurd hs h
  | waiting => rw [Lane.stop_waiting hs]
  | queued | held =>
    rw [Lane.stop_acts (by simp [hs]), Lane.stopWork]
    split <;> rfl
  | working | exchange | reporting | cancelling => rw [Lane.stop_marks (by simp [hs])]

/-- Settles O43: each command in the order of its judgement, and a stop in each state of its lane. -/
theorem laneCommands : Obligations.LaneCommands := by
  intro s
  refine ⟨fun h => ?_, fun h => ?_⟩
  · rw [exec_startLane h]
    refine ⟨fun hn => ?_, fun i hi => ?_⟩
    · rw [State.doStartLane_noLane hn]
    · rw [State.doStartLane_lane hi]
      refine ⟨fun ha => ?_, fun ha hs => ?_, fun ha hs => ?_⟩
      · rw [if_pos ha]
      · rw [if_neg (Nat.not_lt.mpr ha), if_pos hs]
      · rw [if_neg (Nat.not_lt.mpr ha), if_neg (not_not_intro hs)]
        rfl
  · rw [exec_stopLane h]
    refine ⟨fun hn => ?_, fun i hi => ?_⟩
    · rw [State.doStopLane_noLane hn]
    · intro l marked
      rw [State.doStopLane_lane hi]
      refine ⟨fun hs => ?_, fun hs => ⟨l.stop, ?_, Lane.stop_stopMark hs, Lane.stop_waiting, fun hq hsend => ?_,
        fun hq hother => ?_, Lane.stop_marks⟩⟩
      · rw [if_pos hs]
      · rw [if_neg hs]; rfl
      · rw [Lane.stop_acts hq]; exact Lane.stopWork_owes hsend
      · rw [Lane.stop_acts hq]; exact Lane.stopWork_finishes hother

end Sys2Proof.Machine
end

section
/-! What each word of the control page shows (R75, R108, R146, R162, R173, Tables 11.2 and 12.5). -/

namespace Sys2Proof.Machine

variable {s : State}

/-! ### Bounds of the codes -/

theorem Participation.code_lt (p : Participation) : p.code < 4 := by cases p <;> decide

theorem Sync.code_lt (y : Sync) : y.code < 2 := by cases y <;> decide

theorem Reason.code_lt (r : Reason) : r.code < 12 := by cases r <;> decide

theorem CommandResult.code_lt (r : CommandResult) : r.code < 8 := by cases r <;> decide

theorem stationCode_lt (p : Option (Fin 32)) : stationCode p < 64 := by
  cases p with
  | none => decide
  | some q => exact q.isLt.trans (by decide)

theorem State.presenceCode_lt (s : State) (p : Fin 32) : s.presenceCode p < 4 := by
  rw [State.presenceCode]
  split
  · decide
  · split <;> decide

/-- The lane summary, first that applies: IDLE, STOPPING, WAITING, RUNNING (R75). -/
theorem Lane.summary_eq (l : Lane) :
    l.summary = if l.state = .idle then 0 else if l.stopMark then 3 else if l.state = .waiting then 2 else 1 := by
  cases h : l.state <;> simp [Lane.summary, h]

theorem Lane.summary_lt (l : Lane) : l.summary < 4 := by
  rw [Lane.summary_eq]
  split_ifs <;> decide

/-! ### Fields of composed words -/

/-- A word of eight two-bit codes, lowest first, shows each of them in its place. -/
theorem field_twoBitCodes (f : Fin 8 → Nat) (hf : ∀ k, f k < 4) (k : Fin 8) :
    field (BitVec.ofNat 16 ((List.finRange 8).map fun k => f k * 4 ^ k.val).sum) (2 * k.val) 2 = f k := by
  have hlist : List.finRange 8 = [0, 1, 2, 3, 4, 5, 6, 7] := rfl
  have hsum : ((List.finRange 8).map fun k => f k * 4 ^ k.val).sum =
      f 0 + 4 * f 1 + 16 * f 2 + 64 * f 3 + 256 * f 4 + 1024 * f 5 + 4096 * f 6 + 16384 * f 7 := by
    simp [hlist]
    ring
  have h0 := hf 0
  have h1 := hf 1
  have h2 := hf 2
  have h3 := hf 3
  have h4 := hf 4
  have h5 := hf 5
  have h6 := hf 6
  have h7 := hf 7
  rw [hsum, field_ofNat _ _ _ (by omega)]
  fin_cases k <;> simp <;> omega

/-- The halves of a 32-bit value make it up. -/
theorem high16_append_low16 (v : BitVec 32) : high16 v ++ low16 v = v := by
  ext k hk
  rw [high16, low16, BitVec.getElem_append]
  split
  · rw [BitVec.getElem_setWidth, BitVec.getLsbD_eq_getElem hk]
  · have hplace : 16 + (k - 16) = k := by omega
    rw [BitVec.getElem_setWidth, BitVec.getLsbD_ushiftRight, hplace, BitVec.getLsbD_eq_getElem hk]

/-! ### The words -/

theorem State.strapsWord_fields (h : s.ctl.count ≤ 32) :
    field s.strapsWord 11 5 = s.ctl.number.val ∧ field s.strapsWord 5 6 = s.ctl.count ∧
      field s.strapsWord 0 2 = s.ctl.rate.val := by
  have hnumber := s.ctl.number.isLt
  have hrate := s.ctl.rate.isLt
  rw [State.strapsWord, field_ofNat _ _ _ (by omega), field_ofNat _ _ _ (by omega), field_ofNat _ _ _ (by omega)]
  omega

theorem State.stationWord_fields (s : State) :
    field s.stationWord 14 2 = s.ctl.participation.code ∧ field s.stationWord 13 1 = s.ctl.sync.code ∧
      field s.stationWord 7 6 = stationCode s.ctl.last ∧ field s.stationWord 0 4 = s.ctl.reason.code := by
  have hparticipation := s.ctl.participation.code_lt
  have hsync := s.ctl.sync.code_lt
  have hlast := stationCode_lt s.ctl.last
  have hreason := s.ctl.reason.code_lt
  rw [State.stationWord, field_ofNat _ _ _ (by omega), field_ofNat _ _ _ (by omega), field_ofNat _ _ _ (by omega),
    field_ofNat _ _ _ (by omega)]
  omega

theorem State.enablesWord_bits (s : State) :
    s.enablesWord.getLsbD 0 = s.host.enableEvent ∧ s.enablesWord.getLsbD 1 = s.host.enableLineFault ∧
      s.enablesWord.getLsbD 2 = s.host.enableCommandDone := by
  rw [State.enablesWord]
  cases s.host.enableCommandDone <;> cases s.host.enableLineFault <;> cases s.host.enableEvent <;> decide

theorem State.causesWord_commandDone (s : State) : s.causesWord.getLsbD 2 = s.host.commandDone := by
  rw [State.causesWord]
  cases s.host.commandDone <;> cases s.line.lineFault <;> decide

theorem State.commandWord_owner (s : State) : s.commandWord.getLsbD 15 = decide (s.host.owner = .station) := by
  have hcode := s.host.code.isLt
  rw [State.commandWord, BitVec.getLsbD_ofNat, Nat.testBit_eq_decide_div_mod_eq]
  have hbelow : s.host.code.toNat / 32768 = 0 := by omega
  cases s.host.owner with
  | host => simp [hbelow]
  | station => simp [hbelow]

theorem State.commandWord_code (s : State) : field s.commandWord 0 8 = s.host.code.toNat := by
  have hcode := s.host.code.isLt
  rw [State.commandWord, field_ofNat _ _ _ (by split <;> omega)]
  split <;> omega

theorem State.hostRead_param (s : State) (k : Fin 6) :
    s.hostRead (BitVec.ofNat 15 (16384 + (18 + k.val))) = s.host.params[k] := by
  fin_cases k <;> rfl

theorem State.hostRead_presence (s : State) (w : Fin 4) :
    s.hostRead (BitVec.ofNat 15 (16384 + (25 + w.val))) = s.presenceWord w := by
  fin_cases w <;> rfl

/-- Settles O39, word by word. -/
theorem controlPageShowsTheState : Obligations.ControlPageShowsTheState := by
  intro s hcount hentries page presence summary
  obtain ⟨hnumber, hcount, hrate⟩ := State.strapsWord_fields hcount
  obtain ⟨hparticipation, hsync, hlast, hreason⟩ := s.stationWord_fields
  obtain ⟨hevent, hfault, hdone⟩ := s.enablesWord_bits
  refine ⟨rfl, hnumber, hcount, hrate, hparticipation, hsync, hlast, hreason, hevent, hfault, hdone,
    s.hostRead_causes, s.causesWord_commandDone, rfl, rfl, ?_, rfl, s.commandWord_owner, s.commandWord_code,
    s.hostRead_param, ?_, fun w k => ?_, fun k => ?_, high16_append_low16 s.flags.flags⟩
  · exact Nat.mod_eq_of_lt (by omega)
  · exact Nat.mod_eq_of_lt (s.host.result.code_lt.trans (by decide))
  · have hpage : page (25 + w.val) = s.presenceWord w := s.hostRead_presence w
    rw [hpage]
    exact field_twoBitCodes _ (fun k => s.presenceCode_lt _) k
  · exact (field_twoBitCodes _ (fun k => s.lanes[k].summary_lt) k).trans s.lanes[k].summary_eq

end Sys2Proof.Machine
end

section
/-! The controller's service of the waiting claims: the line side, then the host, then the lanes in turn (R77, R152,
R159 to R161). -/

namespace Sys2Proof.Machine

variable {s : State} {i : Fin 8} {k : LineTake} {w v : Word} {rest : List Word} {done : StoreEnd} {a : BitVec 15}

/-! ### Which claim is served (R160) -/

theorem State.serveClaim_line (h : s.mem.lineClaims = true) : s.serveClaim = .ok s.lineAccess.fill := if_pos h

theorem State.serveClaim_host {c : HostClaim} {claims : List HostClaim} (h : s.mem.lineClaims = false)
    (hc : s.host.claims = c :: claims) :
    s.serveClaim = .ok (({ s with host := { s.host with claims := claims } } : State).serveHost c) := by
  rw [State.serveClaim, if_neg (Bool.eq_false_iff.mp h), hc]

theorem State.serveClaim_lane (h : s.hostPathFree = true) : s.serveClaim = s.serveLane := by
  obtain ⟨hl, hc⟩ : s.mem.lineClaims = false ∧ s.host.claims = [] := by simpa [State.hostPathFree] using h
  rw [State.serveClaim, if_neg (Bool.eq_false_iff.mp hl), hc]

theorem exec_laneWordAccess_serves {t : State} (h : s.resetHeld = false) (ht : s.serveClaim = .ok t) :
    exec .laneWordAccess s = .next t := eventWithAccess_ok h ht

/-! ### A word of a line-side take (R161) -/

/-- The state after one word of a store in progress has been stored, before what follows its last word. -/
def State.wordStored (s : State) (k : LineTake) (w : Word) (rest : List Word) (done : StoreEnd) : State :=
  { s with mem := { s.mem with
    cells := writeCell k.address w s.mem.cells
    take := if rest = [] then none
      else some { address := k.address + 1, work := .store rest done, claimed := false } } }

theorem State.wordStored_word (s : State) (k : LineTake) (w : Word) (rest : List Word) (done : StoreEnd) (b : Nat) :
    (s.wordStored k w rest done).word b = if b = k.address then w else s.word b :=
  readCell_writeCell s.mem.cells k.address b w

theorem State.lineAccess_stores (h : s.mem.take = some k) (hk : k.work = .store (w :: rest) done) (hr : rest ≠ []) :
    s.lineAccess = s.wordStored k w rest done := by
  cases rest with
  | nil => exact absurd rfl hr
  | cons v rest => rw [State.lineAccess_store h hk, State.wordStored, if_neg hr]

theorem State.lineAccess_endsStore (h : s.mem.take = some k) (hk : k.work = .store [w] done) :
    s.lineAccess = (s.wordStored k w [] done).takeEnds (.store [] done) := by
  rw [State.lineAccess_store_last h hk, State.wordStored, if_pos rfl]

/-! ### A host claim (R159) -/

/-- The state with another host port. -/
def State.withHost (s : State) (h : HostPort) : State := { s with host := h }

theorem State.withHost_sourcePending (s : State) (h : HostPort) (src : Source) :
    (s.withHost h).sourcePending src = s.sourcePending src := by
  cases src <;> rfl

theorem State.withHost_nextSource (s : State) (h : HostPort) : (s.withHost h).nextSource = s.nextSource := by
  simp only [State.nextSource, State.withHost_sourcePending]
  rfl

theorem State.withHost_report (s : State) (h : HostPort) (src : Source) :
    (s.withHost h).report src = (s.report src).map fun r => (r.1, r.2.withHost h) := by
  cases src with
  | port p =>
    simp only [State.report, State.withHost]
    cases s.recv.ports[p].completions <;> rfl
  | lane i =>
    simp only [State.report, State.withHost]
    cases s.lanes[i].heldEvent <;> rfl
  | window _ | signalled | presence | lineState =>
    simp only [State.report, apply_ite (Option.map _)]
    rfl

/-- A take of the event queue neither reads nor changes the host port. -/
theorem State.withHost_take (s : State) (h : HostPort) :
    (s.withHost h).take = s.take.map fun t => t.withHost h := by
  simp only [State.take, State.withHost_nextSource, State.withHost_report]
  show (if s.queue.entries.length < Config.queueSize then _ else none) = _
  split
  · cases s.nextSource with
    | none => rfl
    | some pos =>
      simp only
      cases s.report (sourceAt pos) <;> rfl
  · rfl

theorem State.withHost_fill (s : State) (h : HostPort) : (s.withHost h).fill = s.fill.withHost h := by
  have go : ∀ n s, State.takes n (s.withHost h) = (State.takes n s).withHost h := by
    intro n
    induction n with
    | zero => intro s; rfl
    | succ n ih =>
      intro s
      simp only [State.takes, State.withHost_take]
      cases s.take with
      | none => rfl
      | some t => exact ih t
  exact go _ s

theorem State.acknowledge_nil (h : s.queue.entries = []) : s.acknowledge = s := by
  rw [State.acknowledge, h]

theorem State.acknowledge_cons {e : Entry} {entries : List Entry} (h : s.queue.entries = e :: entries) :
    s.acknowledge = ({ s with queue := { s.queue with entries := entries } } : State).fill := by
  rw [State.acknowledge, h]

theorem State.withHost_acknowledge (s : State) (h : HostPort) :
    (s.withHost h).acknowledge = s.acknowledge.withHost h := by
  cases hq : s.queue.entries with
  | nil => rw [State.acknowledge_nil hq, State.acknowledge_nil (s := s.withHost h) hq]
  | cons e entries =>
    rw [State.acknowledge_cons hq, State.acknowledge_cons (s := s.withHost h) hq]
    exact State.withHost_fill { s with queue := { s.queue with entries := entries } } h

/-- The host port with `claims` waiting and `out` driven. -/
def HostPort.showing (h : HostPort) (claims : List HostClaim) (out : Option Word) : HostPort :=
  { h with claims := claims, dataOut := out }

theorem HostPort.showing_writeCommand (h : HostPort) (claims : List HostClaim) (out : Option Word) (v : Word) :
    (h.showing claims out).writeCommand v = (h.writeCommand v).showing claims out := by
  cases h with
  | mk owner =>
    cases owner with
    | station => rfl
    | host =>
      simp only [HostPort.writeCommand, HostPort.showing]
      split <;> rfl

theorem HostPort.showing_writeParam (h : HostPort) (claims : List HostClaim) (out : Option Word) (k : Fin 6)
    (v : Word) :
    (h.showing claims out).writeParam k v = (h.writeParam k v).showing claims out := by
  cases h with
  | mk owner => cases owner <;> rfl

/-- The state with `claims` waiting at the host port and `out` driven. -/
def State.showing (s : State) (claims : List HostClaim) (out : Option Word) : State :=
  s.withHost (s.host.showing claims out)

theorem State.showing_pageWrite (s : State) (claims : List HostClaim) (out : Option Word) (page : BitVec 5) (v : Word) :
    (s.showing claims out).pageWrite page v = (s.pageWrite page v).showing claims out := by
  unfold State.pageWrite
  split
  -- Words 16, 17 and 18 to 23 act on more than one field of the host port or on the queue (Table 11.2).
  case h_3 =>
    show (s.withHost _).acknowledge = s.acknowledge.withHost _
    rw [State.withHost_acknowledge, State.acknowledge_host]
  case h_4 => exact congrArg s.withHost (s.host.showing_writeCommand claims out v)
  case h_5 | h_6 | h_7 | h_8 | h_9 | h_10 => exact congrArg s.withHost (s.host.showing_writeParam claims out _ v)
  all_goals rfl

/-- What a host write does is the same whichever claims wait behind it and whatever the part drives (R159). -/
theorem State.showing_hostWrite (s : State) (claims : List HostClaim) (out : Option Word) (a : BitVec 15) (v : Word) :
    (s.showing claims out).hostWrite a v = (s.hostWrite a v).showing claims out := by
  unfold State.hostWrite
  split
  · rfl
  · split
    · exact s.showing_pageWrite claims out _ v
    · rfl

/-- The host write that waits is served as one that finds the path free (R159). -/
theorem exec_hostMemoryWrite_free (h : s.resetHeld = false) (hf : s.hostPathFree = true) (a : BitVec 15) (v : Word) :
    exec (.hostMemoryWrite a (.write v)) s =
      .next (({ s with host := { s.host with dataOut := none } } : State).hostWrite a v) :=
  (event_running h fun s => s.hostStrobe a (.write v)).trans
    (congrArg _ (State.hostAccess_free hf (.write a v)))

theorem controlAddress_five : controlAddress 5 = 16389 := BitVec.eq_of_toNat_eq (controlAddress_toNat 5)

theorem State.showing_word (s : State) (claims : List HostClaim) (out : Option Word) (b : Nat) :
    (s.showing claims out).word b = s.word b := rfl

theorem State.showing_pageRead (s : State) (claims : List HostClaim) (out : Option Word) (page : BitVec 5) :
    (s.showing claims out).pageRead page = s.pageRead page := rfl

/-- What a host read shows is the same whichever claims wait behind it and whatever the part drives (R159). -/
theorem State.showing_hostRead (s : State) (claims : List HostClaim) (out : Option Word) (a : BitVec 15) :
    (s.showing claims out).hostRead a = s.hostRead a := by
  rw [State.hostRead, State.hostRead, State.showing_word, State.showing_pageRead]

/-- A host read at its service drives the word of that moment, and one of word 5 latches the high word (R159, R163). -/
theorem State.showing_readServed (s : State) (claims : List HostClaim) (out : Option Word) (a : BitVec 15)
    (driven : Bool) :
    (s.showing claims out).readServed a driven = { s with host := { s.host with
      claims := claims
      dataOut := if driven then some (s.hostRead a) else out
      latch := if a = 16389 then (s.time.micros >>> 16).setWidth 16 else s.host.latch } } := by
  rw [State.readServed, State.showing_hostRead, controlAddress_five]
  rfl

/-! ### A lane's claim (R77, R160) -/

theorem State.nextClaim_none (h : ∀ i : Fin 8, s.lanes[i].claims = false) : s.nextClaim = none := by
  rw [State.nextClaim, find?_roundRobin_none h, ite_self]

theorem State.nextClaim_first (hf : s.hostPathFree = true) (hi : s.lanes[i].claims = true)
    (hmin : ∀ j : Fin 8, s.lanes[j].claims = true → turnPlace s.mem.lanePointer i ≤ turnPlace s.mem.lanePointer j) :
    s.nextClaim = some i := by
  rw [State.nextClaim, if_pos hf]
  exact find?_roundRobin_first (q := fun i => s.lanes[i].claims) hi hmin

/-- One word of a descriptor is read inside buffer memory, and the lane goes on with the next (R77). -/
theorem State.laneAccess_fetch {n : Fin 8} (hj : s.lanes[i].job = .fetch n) (ha : s.lanes[i].address + n.val < 16384) :
    ({ s with mem := { s.mem with lanePointer := i } } : State).laneAccess i =
      .ok (({ s with mem := { s.mem with lanePointer := i } } : State).setLane i
        (s.lanes[i].fetchedWord n (s.word (s.lanes[i].address + n.val)))) := by
  rw [State.laneAccess]
  simp only [hj]
  exact State.laneReads_ok ha _

/-! ### The service of a store (R119, R134) -/

/-- One word of a store in progress, and what follows the last (R119, R134, R161). -/
theorem lineStoreIsServed (s : State) (k : LineTake) (h : s.mem.take = some k) (w : Word) (rest : List Word)
    (done : StoreEnd) (hk : k.work = .store (w :: rest) done) :
    ∃ t : State,
      t.word k.address = w ∧ (∀ a, a ≠ k.address → t.word a = s.word a) ∧
      t = { s with mem := { s.mem with
        cells := t.mem.cells
        take := if rest = [] then none
          else some { address := k.address + 1, work := .store rest done, claimed := false } } } ∧
      (rest ≠ [] → s.lineAccess = t) ∧
      (∀ i c opens, rest = [] → done = .segment i c opens → s.lineAccess =
        { t with recv := s.recv.segmentStored i c opens }) ∧
      (∀ j p, rest = [] → done = .window j p → s.lineAccess =
        { t with windows := s.windows.set j (s.windows[j].written p) }) := by
  refine ⟨s.wordStored k w rest done, ?_, fun a ha => ?_, rfl, State.lineAccess_stores h hk, fun i c opens hr hd => ?_,
    fun j p hr hd => ?_⟩
  · rw [State.wordStored_word, if_pos rfl]
  · rw [State.wordStored_word, if_neg ha]
  · subst hr hd
    exact State.lineAccess_endsStore h hk
  · subst hr hd
    exact State.lineAccess_endsStore h hk

/-- Settles O24: the line side's claim, the host's, and the lanes' in turn. -/
theorem laneClaimsAreServedInTurn : Obligations.LaneClaimsAreServedInTurn := by
  intro s h
  refine ⟨fun hl => exec_laneWordAccess_serves h (State.serveClaim_line hl), State.settleTake_none,
    State.settleTake_some, fun k hk => ⟨fun w rest done hw => lineStoreIsServed s k hk w rest done hw,
      fun n got hw => ⟨fun hn => ?_, fun hn => ?_⟩, fun n hr hn => (State.lineAccesses_eq n s k hk hr hn).symm⟩,
    fun hl => ⟨fun a v rest hc => ?_, fun a driven rest hc => ?_⟩, fun hf hn => ?_, fun i hf hi hmin => ?_⟩
  · obtain ⟨m, rfl⟩ := Nat.exists_eq_succ_of_ne_zero hn
    exact State.lineAccess_fetch hk hw
  · subst hn
    exact State.lineAccess_fetch_last hk hw
  · have hfree : (s.showing [] s.host.dataOut).hostPathFree = true := by
      simp [State.hostPathFree, State.showing, State.withHost, HostPort.showing, hl]
    refine ⟨(s.showing [] none).hostWrite a v,
      exec_hostMemoryWrite_free (s := s.showing [] s.host.dataOut) h hfree a v, ?_⟩
    rw [exec_laneWordAccess_serves h (State.serveClaim_host hl hc), State.showing_hostWrite]
    exact congrArg _ (s.showing_hostWrite rest s.host.dataOut a v)
  · rw [exec_laneWordAccess_serves h (State.serveClaim_host hl hc)]
    exact congrArg _ (s.showing_readServed rest s.host.dataOut a driven)
  · refine exec_laneWordAccess_serves h ((State.serveClaim_lane hf).trans ?_)
    rw [State.serveLane, State.nextClaim_none hn]
  · have hnext := State.nextClaim_first hf hi hmin
    exact ⟨hnext, fun n hj ha => exec_laneWordAccess h hnext (State.laneAccess_fetch hj ha)⟩

end Sys2Proof.Machine
end

section
/-! What a fill of the event queue ends in, and what it may change (R91, R92, R150, R152, R153). -/

namespace Sys2Proof.Machine

variable {s t u : State} {i : Fin 8}

/-! ### The end of the fill (R152) -/

theorem mem_arbiterOrder (p pos : Fin 35) : pos ∈ arbiterOrder p :=
  List.mem_map.mpr ⟨pos - (p + 1), List.mem_finRange _, add_sub_cancel _ _⟩

theorem State.sourcePending_of_nextSource (h : s.nextSource = none) (pos : Fin 35) :
    s.sourcePending (sourceAt pos) = false := by
  have hnone := List.find?_eq_none.mp h pos (mem_arbiterOrder _ pos)
  simpa using hnone

/-- With as many takes as there are free entries the queue is full or nothing more can be taken. -/
theorem State.takes_end (n : Nat) (s : State) (h : 64 ≤ s.queue.entries.length + n) :
    64 ≤ (State.takes n s).queue.entries.length ∨ (State.takes n s).nextSource = none := by
  induction n generalizing s with
  | zero => exact .inl h
  | succ n ih =>
    rw [State.takes]
    cases ht : s.take with
    | none => exact State.take_eq_none ht
    | some t =>
      obtain ⟨-, hlength⟩ := State.take_queue ht
      exact ih t (by omega)

theorem State.fill_end (s : State) :
    64 ≤ s.fill.queue.entries.length ∨ ∀ pos, s.fill.sourcePending (sourceAt pos) = false :=
  (State.takes_end 64 s (Nat.le_add_left _ _)).imp_right State.sourcePending_of_nextSource

/-! ### The entries that are added (R150) -/

/-- `t` has the entries of `s` with `added` at the tail, each with the time base of `s` and in successive serials. -/
def State.Adds (s t : State) (added : List Entry) : Prop :=
  t.queue.entries = s.queue.entries ++ added ∧ t.queue.serial = s.queue.serial + BitVec.ofNat 16 added.length ∧
    ∀ k e, added[k]? = some e → e.timestamp = s.time.micros ∧ e.serial = s.queue.serial + BitVec.ofNat 16 k

theorem State.Adds.refl (s : State) : s.Adds s [] := ⟨by simp, by simp, by simp⟩

/-- A take adds one entry. -/
theorem State.Adds.take {added : List Entry} (h : s.Adds u added) (htime : u.time = s.time) (ht : u.take = some t) :
    ∃ e, s.Adds t (added ++ [e]) := by
  obtain ⟨pos, e, v, -, -, hr, rfl⟩ := State.take_cases ht
  obtain ⟨hentries, hserial, hadded⟩ := h
  have hqueue : v.queue = u.queue := by rw [State.report_frame hr]
  have hvtime : v.time = u.time := by rw [State.report_frame hr]
  refine ⟨⟨e, v.time.micros, v.queue.serial⟩, ?_, ?_, fun k x hx => ?_⟩
  · simp [State.enqueue, hqueue, hentries]
  · simp [State.enqueue, hqueue, hserial, BitVec.ofNat_add, BitVec.add_assoc]
  · rcases Nat.lt_trichotomy k added.length with hk | rfl | hk
    · rw [List.getElem?_append_left hk] at hx
      exact hadded k x hx
    · obtain rfl : (⟨e, v.time.micros, v.queue.serial⟩ : Entry) = x := by simpa using hx
      exact ⟨by rw [hvtime, htime], by rw [hqueue, hserial]⟩
    · rw [List.getElem?_eq_none (by simpa using hk)] at hx
      cases hx

theorem State.fill_adds (s : State) : ∃ added, s.Adds s.fill added := by
  refine And.left (State.fill_induction (P := fun t => (∃ added, s.Adds t added) ∧ t.time = s.time) s
    ⟨⟨[], .refl s⟩, rfl⟩ ?_)
  rintro u v ⟨⟨added, h⟩, htime⟩ hv
  obtain ⟨e, he⟩ := h.take htime hv
  obtain ⟨-, -, -, -, -, hvtime, -⟩ := State.take_frame hv
  exact ⟨⟨_, he⟩, hvtime.trans htime⟩

/-! ### What the takes may change (R153) -/

/-- `t` is `s` but for the queue and what the sources of the queue hold. -/
def State.SourcesOnly (s t : State) : Prop :=
  t = { s with
    ctl := { s.ctl with lineStatePending := t.ctl.lineStatePending }
    lanes := t.lanes
    flags := { s.flags with signalled := t.flags.signalled }
    recv := { s.recv with ports := t.recv.ports }
    windows := t.windows
    presence := { s.presence with changed := t.presence.changed }
    queue := t.queue }

theorem State.SourcesOnly.trans (h : s.SourcesOnly u) (k : u.SourcesOnly t) : s.SourcesOnly t := by
  unfold State.SourcesOnly at *
  rw [h] at k
  exact k

theorem State.take_sourcesOnly (h : s.take = some t) : s.SourcesOnly t := by
  obtain ⟨pos, e, u, -, -, hr, rfl⟩ := State.take_cases h
  unfold State.SourcesOnly
  rw [State.report_frame hr]
  rfl

theorem State.fill_sourcesOnly (s : State) : s.SourcesOnly s.fill :=
  State.fill_induction (P := s.SourcesOnly) s rfl fun _ _ hu hv => hu.trans (State.take_sourcesOnly hv)

/-! ### Ports and windows -/

/-- A take removes at most the head of a completion list (R127). -/
theorem State.take_completions (h : s.take = some t) (q : Fin 16) :
    t.recv.ports[q].completions <:+ s.recv.ports[q].completions := by
  obtain ⟨pos, e, u, -, -, hr, rfl⟩ := State.take_cases h
  rw [State.enqueue_recv]
  rcases State.report_ports hr with ⟨p, c, rest, -, hc, hp⟩ | hp
  · rw [hp]
    simp only [Fin.getElem_fin, Vector.getElem_set]
    split
    · rename_i hpq
      obtain rfl : p = q := Fin.ext hpq
      exact ⟨[c], hc.symm⟩
    · exact List.suffix_rfl
  · rw [hp]

theorem State.fill_completions (s : State) (q : Fin 16) :
    s.fill.recv.ports[q].completions <:+ s.recv.ports[q].completions :=
  State.fill_induction (P := fun t => t.recv.ports[q].completions <:+ s.recv.ports[q].completions) s List.suffix_rfl
    fun _ _ hu hv => (State.take_completions hv q).trans hu

/-- A take leaves a window or empties its written-pending count (R138). -/
theorem State.take_windowPending (h : s.take = some t) (w : Fin 8) :
    t.windows[w] = s.windows[w] ∨ t.windows[w] = { s.windows[w] with pending := 0 } := by
  obtain ⟨pos, e, u, -, -, hr, rfl⟩ := State.take_cases h
  rw [State.enqueue_windows]
  rcases State.report_windows hr with ⟨v, -, hv⟩ | hv
  · rw [hv]
    simp only [Fin.getElem_fin, Vector.getElem_set]
    split
    · rename_i hvw
      obtain rfl : v = w := Fin.ext hvw
      exact .inr rfl
    · exact .inl rfl
  · rw [hv]
    exact .inl rfl

theorem State.fill_windowPending (s : State) (w : Fin 8) :
    s.fill.windows[w] = s.windows[w] ∨ s.fill.windows[w] = { s.windows[w] with pending := 0 } := by
  refine State.fill_induction
    (P := fun t => t.windows[w] = s.windows[w] ∨ t.windows[w] = { s.windows[w] with pending := 0 }) s (.inl rfl) ?_
  intro u v hu hv
  rcases State.take_windowPending hv w with h | h
  · rwa [h]
  · refine .inr ?_
    rcases hu with hu | hu <;> rw [h, hu]

/-! ### Lanes (R91, R92) -/

/-- A lane that holds an event after the take of one holds the LANE ENDED that its path posted. -/
theorem Lane.eventTaken_holds {l : Lane} (h : (l.eventTaken i).heldEvent ≠ none) :
    (l.eventTaken i).job = .afterEnded := by
  cases hj : l.job with
  | afterDone st =>
    rw [Lane.eventTaken_afterDone hj] at h ⊢
    rcases Lane.takePath_cases { l with heldEvent := none, state := .working } i st with ⟨r, hp⟩ | ⟨a, -, hp⟩
    · rw [hp]; rfl
    · rw [hp] at h; exact absurd rfl h
  | afterNote => exact absurd (by rw [Lane.eventTaken_afterNote hj, Lane.finish_heldEvent]) h
  | _ => exact absurd (by rw [Lane.eventTaken, hj]) h

/-- The take of a LANE ENDED posted at a take leaves no event. -/
theorem Lane.eventTaken_twice {l : Lane} (h : (l.eventTaken i).heldEvent ≠ none) :
    ((l.eventTaken i).eventTaken i).heldEvent = none := by
  rw [Lane.eventTaken_afterEnded (Lane.eventTaken_holds h)]

/-- What takes may have made of lane `i` with `l` before them: nothing, its event taken, or with it the LANE ENDED
posted at that take. -/
def Lane.TakenTo (i : Fin 8) (l m : Lane) : Prop :=
  m = l ∨ l.heldEvent ≠ none ∧ (m = l.eventTaken i ∨
    (l.eventTaken i).heldEvent ≠ none ∧ m = (l.eventTaken i).eventTaken i)

theorem Lane.TakenTo.eventTaken {l m : Lane} (h : l.TakenTo i m) (he : m.heldEvent ≠ none) :
    l.TakenTo i (m.eventTaken i) := by
  rcases h with rfl | ⟨hl, rfl | ⟨hm, rfl⟩⟩
  · exact .inr ⟨he, .inl rfl⟩
  · exact .inr ⟨hl, .inr ⟨he, rfl⟩⟩
  · exact absurd (Lane.eventTaken_twice hm) he

theorem State.take_lane (h : s.take = some t) (i : Fin 8) :
    t.lanes[i] = s.lanes[i] ∨ s.lanes[i].heldEvent ≠ none ∧ t.lanes[i] = s.lanes[i].eventTaken i := by
  obtain ⟨pos, e, u, -, -, hr, rfl⟩ := State.take_cases h
  rw [State.enqueue_lanes]
  rcases State.report_lanes hr with ⟨j, -, he, hj⟩ | hj
  · rw [hj]
    simp only [Fin.getElem_fin, Vector.getElem_set]
    split
    · rename_i hji
      obtain rfl : j = i := Fin.ext hji
      exact .inr ⟨by simpa using Option.ne_none_iff_exists'.mpr ⟨e, he⟩, rfl⟩
    · exact .inl rfl
  · rw [hj]
    exact .inl rfl

theorem State.fill_lane (s : State) (i : Fin 8) : s.lanes[i].TakenTo i s.fill.lanes[i] := by
  refine State.fill_induction (P := fun t => s.lanes[i].TakenTo i t.lanes[i]) s (.inl rfl) fun u v hu hv => ?_
  rcases State.take_lane hv i with h | ⟨he, h⟩ <;> rw [h]
  · exact hu
  · exact hu.eventTaken he

/-! ### Sets and marks -/

/-- The marks of the flag unit, the presence table and the station controller that sources of the queue hold stand as
they were, or are empty (R41, R107, R145). -/
def State.MarksTaken (s t : State) : Prop :=
  (t.flags.signalled = s.flags.signalled ∨ t.flags.signalled = 0) ∧
    (t.presence.changed = s.presence.changed ∨ t.presence.changed = 0) ∧
    (t.ctl.lineStatePending = s.ctl.lineStatePending ∨ t.ctl.lineStatePending = false)

theorem State.MarksTaken.refl (s : State) : s.MarksTaken s := ⟨.inl rfl, .inl rfl, .inl rfl⟩

theorem State.MarksTaken.trans (h : s.MarksTaken u) (k : u.MarksTaken t) : s.MarksTaken t := by
  obtain ⟨hsignalled, hchanged, hline⟩ := h
  obtain ⟨ksignalled, kchanged, kline⟩ := k
  refine ⟨ksignalled.elim (fun k => ?_) .inr, kchanged.elim (fun k => ?_) .inr, kline.elim (fun k => ?_) .inr⟩
  all_goals rwa [k]

/-- A report takes at most the mark of its own source. -/
theorem State.report_marks {src : Source} {e : Event} (h : s.report src = some (e, t)) : s.MarksTaken t := by
  cases src with
  | port _ | lane _ =>
    simp only [State.report] at h
    split at h
    · cases h
    · cases h
      exact .refl s
  | window _ =>
    simp only [State.report, Option.ite_none_right_eq_some] at h
    obtain ⟨-, h⟩ := h
    cases h
    exact .refl s
  | signalled =>
    simp only [State.report, Option.ite_none_left_eq_some] at h
    obtain ⟨-, h⟩ := h
    cases h
    exact ⟨.inr rfl, .inl rfl, .inl rfl⟩
  | presence =>
    simp only [State.report, Option.ite_none_left_eq_some] at h
    obtain ⟨-, h⟩ := h
    cases h
    exact ⟨.inl rfl, .inr rfl, .inl rfl⟩
  | lineState =>
    simp only [State.report, Option.ite_none_right_eq_some] at h
    obtain ⟨-, h⟩ := h
    cases h
    exact ⟨.inl rfl, .inl rfl, .inr rfl⟩

theorem State.take_marks (h : s.take = some t) : s.MarksTaken t := by
  obtain ⟨pos, e, u, -, -, hr, rfl⟩ := State.take_cases h
  exact State.report_marks (t := u) hr

theorem State.fill_marks (s : State) : s.MarksTaken s.fill :=
  State.fill_induction (P := s.MarksTaken) s (.refl s) fun _ _ hu hv => hu.trans (State.take_marks hv)

/-- Settles O35, block by block. -/
theorem fillEndsFullOrIdle : Obligations.FillEndsFullOrIdle := by
  intro s
  obtain ⟨hsignalled, hchanged, hline⟩ := s.fill_marks
  refine ⟨s.fill_end, s.fill_adds, s.fill_sourcesOnly, fun p => ⟨?_, ?_, s.fill_completions p⟩,
    fun i => ⟨fun he => ?_, ?_⟩, s.fill_windowPending, hsignalled, hchanged, hline⟩
  · rw [s.fill_port p]
  · rw [s.fill_port p]
  · rcases s.fill_lane i with h | ⟨hne, -⟩
    · exact h
    · exact absurd he hne
  · exact (s.fill_lane i).imp_right And.right

end Sys2Proof.Machine
end

section
/-! Waits that end by their timer or by a stop, and the waiters that a set of their flag releases (R99, R102, R103). -/

namespace Sys2Proof.Machine

variable {s : State} {u : FlagUnit} {i : Fin 8} {f : Fin 32}

/-! ### The wait timer (R102) -/

/-- The wait timer of lane `i` at its limit hands an expiry. -/
theorem State.waitTimerExpires_acts {n : Nat} (hs : s.lanes[i].state = .waiting) (hn : s.lanes[i].wait = some n)
    (h : s.lanes[i].copy[3].toNat ≤ n + 1) :
    s.waitTimerExpires i = s.updateLane i fun l => { l with wait := none, expiryHanded := true } := by
  refine if_pos ⟨hs, ?_⟩
  rw [hn, Option.any_some, reached, decide_eq_true_eq]
  exact h

/-- A lane that does not wait, or whose count is short of the limit, hands none (log 5). -/
theorem State.waitTimerExpires_waits
    (h : s.lanes[i].state ≠ .waiting ∨ ∀ n, s.lanes[i].wait = some n → n + 1 < s.lanes[i].copy[3].toNat) :
    s.waitTimerExpires i = s := by
  refine if_neg fun ⟨hs, hany⟩ => ?_
  obtain ⟨n, hn, hr⟩ := (Option.any_eq_true _ _).mp hany
  have hlimit : s.lanes[i].copy[3].toNat ≤ n + 1 := of_decide_eq_true hr
  have hlt := h.resolve_left (not_not_intro hs) n hn
  omega

/-! ### Expiries and removals at the flag unit (R102, R103) -/

theorem State.onWaitList_iff : s.onWaitList i = true ↔ 0 < s.timesListed i s.lanes[i].flag := onList_iff _ _

theorem State.onWaitList_of_unlisted (h : s.timesListed i s.lanes[i].flag = 0) : s.onWaitList i = false :=
  Bool.eq_false_iff.mpr fun hon => (State.onWaitList_iff.mp hon).ne' h

theorem State.takeExpiry_listed (he : s.lanes[i].expiryHanded = true) (hl : 0 < s.timesListed i s.lanes[i].flag) :
    s.takeExpiry i = s.leaveList i .expired := by
  rw [State.takeExpiry, if_pos he, if_pos (State.onWaitList_iff.mpr hl)]

theorem State.takeExpiry_dropped (he : s.lanes[i].expiryHanded = true) (hl : s.timesListed i s.lanes[i].flag = 0) :
    s.takeExpiry i = s.updateLane i fun l => { l with expiryHanded := false } := by
  rw [State.takeExpiry, if_pos he, State.onWaitList_of_unlisted hl, if_neg Bool.false_ne_true]

theorem State.takeExpiry_none (he : s.lanes[i].expiryHanded = false) : s.takeExpiry i = s :=
  if_neg (Bool.eq_false_iff.mp he)

theorem State.takeRemoval_listed (hr : s.lanes[i].removalHanded = true) (hl : 0 < s.timesListed i s.lanes[i].flag) :
    s.takeRemoval i = s.leaveList i .stopped := by
  rw [State.takeRemoval, if_pos hr, if_pos (State.onWaitList_iff.mpr hl)]

theorem State.takeRemoval_dropped (hr : s.lanes[i].removalHanded = true) (hl : s.timesListed i s.lanes[i].flag = 0) :
    s.takeRemoval i = s.updateLane i fun l => { l with removalHanded := false } := by
  rw [State.takeRemoval, if_pos hr, State.onWaitList_of_unlisted hl, if_neg Bool.false_ne_true]

theorem State.takeRemoval_none (hr : s.lanes[i].removalHanded = false) : s.takeRemoval i = s :=
  if_neg (Bool.eq_false_iff.mp hr)

theorem exec_waitTimerExpiry (h : s.resetHeld = false) (i : Fin 8) :
    exec (.waitTimerExpiry i) s = .next (s.waitTimerExpires i) :=
  event_running h fun s => s.waitTimerExpires i

theorem exec_waitExpiryTake (h : s.resetHeld = false) (i : Fin 8) :
    exec (.waitExpiryTake i) s = .next (s.takeExpiry i) :=
  event_running h fun s => s.takeExpiry i

theorem exec_waitRemovalTake (h : s.resetHeld = false) (i : Fin 8) :
    exec (.waitRemovalTake i) s = .next (s.takeRemoval i) :=
  event_running h fun s => s.takeRemoval i

/-- Settles O21: the timer at its limit and short of it, then each take by what is handed and what is listed. -/
theorem waitsExpireAndAreRemoved : Obligations.WaitsExpireAndAreRemoved := by
  intro s i h l off leaves
  rw [exec_waitTimerExpiry h, exec_waitExpiryTake h, exec_waitRemovalTake h]
  refine ⟨fun n hs hn hlimit => ?_, fun hshort => ?_, fun he => ⟨fun hl => ?_, fun hl => ?_⟩, fun he => ?_,
    fun hr => ⟨fun hl => ?_, fun hl => ?_⟩, fun hr => ?_⟩
  · rw [State.waitTimerExpires_acts hs hn hlimit]; rfl
  · rw [State.waitTimerExpires_waits hshort]
  · rw [State.takeExpiry_listed he hl]; rfl
  · rw [State.takeExpiry_dropped he hl]; rfl
  · rw [State.takeExpiry_none he]
  · rw [State.takeRemoval_listed hr hl]; rfl
  · rw [State.takeRemoval_dropped hr hl]; rfl
  · rw [State.takeRemoval_none hr]

/-! ### The entries that a set releases (R99) -/

/-- Lane `i` is named by an entry that a set releases: one without the consume mark, or one with it that has none before
it (R99). -/
def releasesLane (l : List WaitEntry) (i : Fin 8) : Prop :=
  ∃ before after c, l = before ++ { lane := i, consume := c } :: after ∧ (c = true → ∀ e ∈ before, e.consume = false)

/-- An entry without the consume mark, by its place on the list. -/
theorem exists_free_iff (l : List WaitEntry) (i : Fin 8) :
    (∃ e ∈ l, e.consume = false ∧ e.lane = i) ↔
      ∃ before after, l = before ++ { lane := i, consume := false } :: after := by
  constructor
  · rintro ⟨⟨_, _⟩, he, rfl, rfl⟩
    exact List.append_of_mem he
  · rintro ⟨before, after, rfl⟩
    exact ⟨⟨i, false⟩, by simp, rfl, rfl⟩

/-- The first entry with the consume mark, by its place on the list. -/
theorem exists_firstConsumer_iff (l : List WaitEntry) (i : Fin 8) :
    (∃ e ∈ (l.filter fun e => e.consume).take 1, e.lane = i) ↔
      ∃ before after, l = before ++ { lane := i, consume := true } :: after ∧ ∀ e ∈ before, e.consume = false := by
  have hfirst (e : WaitEntry) : e ∈ (l.filter fun e => e.consume).take 1 ↔
      e.consume = true ∧ ∃ before after, l = before ++ e :: after ∧ ∀ x ∈ before, x.consume = false := by
    rw [List.take_one, Option.mem_toList, List.head?_filter, List.find?_eq_some_iff_append]
    simp only [Bool.not_eq_true']
  simp only [hfirst]
  constructor
  · rintro ⟨⟨_, _⟩, ⟨rfl, hplace⟩, rfl⟩
    exact hplace
  · exact fun hplace => ⟨⟨i, true⟩, ⟨rfl, hplace⟩, rfl⟩

theorem onList_releasedEntries_iff (l : List WaitEntry) (i : Fin 8) :
    onList (releasedEntries l) i = true ↔ releasesLane l i := by
  have hparts : onList (releasedEntries l) i = true ↔
      (∃ e ∈ l, e.consume = false ∧ e.lane = i) ∨ ∃ e ∈ (l.filter fun e => e.consume).take 1, e.lane = i := by
    simp only [onList, releasedEntries, List.any_append, Bool.or_eq_true, List.any_eq_true, List.mem_filter,
      Bool.not_eq_true', beq_iff_eq, and_assoc]
  rw [hparts, exists_free_iff, exists_firstConsumer_iff]
  constructor
  · rintro (⟨before, after, hl⟩ | ⟨before, after, hl, hfirst⟩)
    · exact ⟨before, after, false, hl, fun hc => by cases hc⟩
    · exact ⟨before, after, true, hl, fun _ => hfirst⟩
  · rintro ⟨before, after, _ | _, hl, hfirst⟩
    · exact .inl ⟨before, after, hl⟩
    · exact .inr ⟨before, after, hl, hfirst rfl⟩

/-- A list without a consuming entry releases no consumer (R99). -/
theorem releasesConsumer_of_free {l : List WaitEntry} (h : ∀ e ∈ l, e.consume = false) : releasesConsumer l = false :=
  List.any_eq_false.mpr fun e he => Bool.eq_false_iff.mp (h e he)

/-- After the first consumer the later consuming entries stay, in order (R99). -/
theorem remainingEntries_of_first {before after : List WaitEntry} (h : ∀ e ∈ before, e.consume = false) :
    remainingEntries (before ++ { lane := i, consume := true } :: after) = after.filter fun e => e.consume := by
  have hbefore : (before.filter fun e => e.consume) = [] :=
    List.filter_eq_nil_iff.mpr fun e he => Bool.eq_false_iff.mp (h e he)
  rw [remainingEntries, List.filter_append, hbefore, List.nil_append, List.filter_cons_of_pos rfl]
  rfl

/-! ### Setting one flag (R99) -/

/-- Setting a flag that is set changes nothing. -/
theorem State.setFlag_of_set (h : s.flags.isSet f = true) : s.setFlag f = s := if_pos h

theorem FlagUnit.set_lists_of_clear (h : u.isSet f = false) (g : Fin 32) :
    (u.set f).lists[g] = if g = f then remainingEntries u.lists[f] else u.lists[g] := by
  rw [FlagUnit.set_of_clear h]
  exact getElem_lists_set _ _ _ _

theorem State.setFlag_list_of_clear (h : s.flags.isSet f = false) :
    (s.setFlag f).flags.lists[f] = remainingEntries s.flags.lists[f] := by
  rw [State.setFlag_flags, FlagUnit.set_lists_of_clear h, if_pos rfl]

/-- The lanes that a set of `f` releases: none where the flag is set already. -/
def FlagUnit.releases (u : FlagUnit) (f : Fin 32) (i : Fin 8) : Bool :=
  !u.isSet f && onList (releasedEntries u.lists[f]) i

theorem FlagUnit.releases_iff (u : FlagUnit) (f : Fin 32) (i : Fin 8) :
    u.releases f i = true ↔ u.isSet f = false ∧ releasesLane u.lists[f] i := by
  rw [FlagUnit.releases, Bool.and_eq_true, Bool.not_eq_true', onList_releasedEntries_iff]

/-- A set releases lanes from its list and leaves the other lanes as they are. -/
theorem State.setFlag_lane (s : State) (f : Fin 32) (i : Fin 8) :
    (s.setFlag f).lanes[i] = if s.flags.releases f i then s.lanes[i].leaveWait .done else s.lanes[i] := by
  rw [State.setFlag, FlagUnit.releases]
  cases s.flags.isSet f with
  | true => rfl
  | false => exact State.lanes_mapLanes_get _ _ i

/-- A set of a clear flag changes its own list, the flags and the lanes. -/
theorem State.setFlag_frame_of_clear (h : s.flags.isSet f = false) :
    s.setFlag f = { s with
      flags := { s.flags with
        flags := (s.setFlag f).flags.flags, lists := s.flags.lists.set f (s.setFlag f).flags.lists[f] }
      lanes := (s.setFlag f).lanes } := by
  rw [State.setFlag_list_of_clear h]
  conv_lhs => rw [State.setFlag_frame]
  rw [State.setFlag_flags, FlagUnit.set_of_clear h]

/-- Settles O22: the flag and its list by the first consumer, the lanes by the entries that are released. -/
theorem settingAFlagReleasesWaiters : Obligations.SettingAFlagReleasesWaiters := by
  intro s f
  refine ⟨State.setFlag_of_set, fun h => ?_⟩
  intro old new
  have hset (g : Fin 32) : (s.setFlag f).flags.isSet g =
      (s.flags.isSet g || (decide (f = g) && !releasesConsumer old)) := by
    rw [State.setFlag_flags]; exact s.flags.set_isSet f g
  have hnew : new = remainingEntries old := State.setFlag_list_of_clear h
  have hlane (i : Fin 8) := s.setFlag_lane f i
  refine ⟨State.setFlag_frame_of_clear h, fun g hg => ?_, fun hfree => ?_, fun before after i hold hfirst => ?_,
    fun i => ⟨fun hreleased => ?_, fun hkept => ?_⟩⟩
  · simp [hset, Ne.symm hg]
  · have hnone := releasesConsumer_of_free hfree
    exact ⟨by simp [hset, hnone], hnew.trans (remainingEntries_eq_nil hnone)⟩
  · have hsome : releasesConsumer old = true := by simp [hold, releasesConsumer]
    refine ⟨by simp [hset, h, hsome], ?_⟩
    rw [hnew, hold]
    exact remainingEntries_of_first hfirst
  · rw [hlane, if_pos ((FlagUnit.releases_iff _ _ _).mpr ⟨h, hreleased⟩)]; rfl
  · rw [hlane, if_neg]
    rw [FlagUnit.releases_iff]
    rintro ⟨-, before, after, c, hold, hfirst⟩
    obtain ⟨rfl, e, he, hconsume⟩ := hkept before after c hold
    rw [hfirst rfl e he] at hconsume
    cases hconsume

end Sys2Proof.Machine
end

section
/-! SET FLAGS, CLEAR FLAGS and SET SIGNAL MASKS, and which take acts on a waiting command (R104, R105, R166). -/

namespace Sys2Proof.Machine

variable {s : State} {u v : FlagUnit} {i : Fin 8} {f g : Fin 32} {mask : BitVec 32}

/-! ### One flag of the flag unit -/

/-- Flag `f` and its wait list are the same in both. -/
def FlagUnit.SameFlag (u v : FlagUnit) (f : Fin 32) : Prop := u.isSet f = v.isSet f ∧ u.lists[f] = v.lists[f]

theorem FlagUnit.SameFlag.trans {w : FlagUnit} (h : u.SameFlag v f) (k : v.SameFlag w f) : u.SameFlag w f := by
  obtain ⟨hset, hlist⟩ := h
  obtain ⟨kset, klist⟩ := k
  exact ⟨hset.trans kset, hlist.trans klist⟩

/-- A set of another flag leaves flag `g` and its list (R99). -/
theorem FlagUnit.set_other (u : FlagUnit) (h : g ≠ f) : (u.set f).SameFlag u g := by
  refine ⟨by rw [FlagUnit.set_isSet, decide_eq_false h.symm, Bool.false_and, Bool.or_false], ?_⟩
  cases hf : u.isSet f with
  | true => rw [FlagUnit.set, if_pos hf]
  | false => rw [FlagUnit.set_lists_of_clear hf, if_neg h]

/-- What a set makes of its flag rests on that flag and its list alone (R99). -/
theorem FlagUnit.set_same (h : u.SameFlag v f) : (u.set f).SameFlag (v.set f) f := by
  obtain ⟨hset, hlist⟩ := h
  refine ⟨by rw [FlagUnit.set_isSet, FlagUnit.set_isSet, hset, hlist], ?_⟩
  cases hf : u.isSet f with
  | true =>
    rw [FlagUnit.set, if_pos hf, FlagUnit.set, if_pos (hset ▸ hf)]
    exact hlist
  | false => rw [FlagUnit.set_lists_of_clear hf, FlagUnit.set_lists_of_clear (hset ▸ hf), hlist]

theorem FlagUnit.releases_same (h : u.SameFlag v f) (i : Fin 8) : u.releases f i = v.releases f i := by
  obtain ⟨hset, hlist⟩ := h
  rw [FlagUnit.releases, FlagUnit.releases, hset, hlist]

/-! ### SET FLAGS (R104) -/

/-- `t` is `s` with each flag of `l` set by R99, as if each were the only one. -/
structure State.SetsEach (s : State) (l : List (Fin 32)) (t : State) : Prop where
  frame : t = { s with flags := { s.flags with flags := t.flags.flags, lists := t.flags.lists }, lanes := t.lanes }
  unnamed : ∀ f ∉ l, t.flags.SameFlag s.flags f
  named : ∀ f ∈ l, t.flags.SameFlag (s.flags.set f) f
  lane : ∀ i : Fin 8, t.lanes[i] =
    if l.any fun f => s.flags.releases f i then s.lanes[i].leaveWait .done else s.lanes[i]

/-- A set changes the flags, the lists and the lanes only (R99). -/
theorem State.setFlag_frame_flags (s : State) (f : Fin 32) :
    s.setFlag f = { s with
      flags := { s.flags with flags := (s.setFlag f).flags.flags, lists := (s.setFlag f).flags.lists }
      lanes := (s.setFlag f).lanes } := by
  conv_lhs => rw [State.setFlag_frame]
  rw [State.setFlag_flags, FlagUnit.set]
  split <;> rfl

/-- Different flags are set one after another without touching each other's flag and list, and a lane that several lists
release leaves its wait once (R104). -/
theorem State.foldl_setFlag (s : State) {l : List (Fin 32)} (hl : l.Nodup) :
    s.SetsEach l (l.foldl State.setFlag s) := by
  induction l generalizing s with
  | nil => exact ⟨rfl, fun _ _ => ⟨rfl, rfl⟩, fun _ h => absurd h List.not_mem_nil, fun _ => rfl⟩
  | cons f l ih =>
    obtain ⟨hf, hl⟩ := List.nodup_cons.mp hl
    have hstep := ih (s.setFlag f) hl
    rw [List.foldl_cons]
    generalize l.foldl State.setFlag (s.setFlag f) = t at hstep ⊢
    obtain ⟨hframe, hunnamed, hnamed, hlane⟩ := hstep
    rw [State.setFlag_flags] at hunnamed hnamed hlane
    have hother {g : Fin 32} (hg : g ∈ l) : (s.flags.set f).SameFlag s.flags g :=
      s.flags.set_other fun h => hf (h ▸ hg)
    refine ⟨?_, fun g hg => ?_, fun g hg => ?_, fun i => ?_⟩
    · rw [hframe]
      conv_lhs => rw [State.setFlag_frame_flags]
    · obtain ⟨hgf, hgl⟩ := not_or.mp (mt List.mem_cons.mpr hg)
      exact (hunnamed g hgl).trans (s.flags.set_other hgf)
    · rcases List.mem_cons.mp hg with rfl | hgl
      · exact hunnamed g hf
      · exact (hnamed g hgl).trans (FlagUnit.set_same (hother hgl))
    · have hany : (l.any fun g => (s.flags.set f).releases g i) = l.any fun g => s.flags.releases g i :=
        Bool.eq_iff_iff.mpr <| by
          simp only [List.any_eq_true]
          exact exists_congr fun g => and_congr_right fun hg => by rw [FlagUnit.releases_same (hother hg)]
      rw [hlane, State.setFlag_lane, List.any_cons, hany]
      cases s.flags.releases f i <;> cases l.any fun g => s.flags.releases g i <;> rfl

/-- The flags that a mask names, lowest first (R104). -/
def namedFlags (mask : BitVec 32) : List (Fin 32) := (List.finRange 32).filter fun f => mask.getLsbD f.val

theorem mem_namedFlags : f ∈ namedFlags mask ↔ mask.getLsbD f.val = true := by
  simp [namedFlags]

theorem namedFlags_nodup (mask : BitVec 32) : (namedFlags mask).Nodup := (List.nodup_finRange 32).filter _

theorem State.setFlagMask_eq (s : State) (mask : BitVec 32) :
    s.setFlagMask mask = (namedFlags mask).foldl State.setFlag s := List.foldl_filter.symm

theorem State.setFlagMask_setsEach (s : State) (mask : BitVec 32) :
    s.SetsEach (namedFlags mask) (s.setFlagMask mask) := by
  rw [State.setFlagMask_eq]
  exact s.foldl_setFlag (namedFlags_nodup mask)

/-! ### CLEAR FLAGS (R104) -/

/-- Flags cleared one after another: only the flags change. -/
theorem State.foldl_clearFlag_frame (s : State) (l : List (Fin 32)) :
    l.foldl State.clearFlag s = { s with
      flags := { s.flags with flags := (l.foldl State.clearFlag s).flags.flags } } := by
  induction l generalizing s with
  | nil => rfl
  | cons f l ih =>
    rw [List.foldl_cons, ih]
    rfl

theorem State.foldl_clearFlag_isSet (s : State) (l : List (Fin 32)) (g : Fin 32) :
    (l.foldl State.clearFlag s).flags.isSet g = (s.flags.isSet g && !decide (g ∈ l)) := by
  induction l generalizing s with
  | nil => simp
  | cons f l ih =>
    rw [List.foldl_cons, ih, State.clearFlag, FlagUnit.clear_isSet]
    by_cases hg : g = f <;> simp [hg]

theorem State.clearFlagMask_eq (s : State) (mask : BitVec 32) :
    s.clearFlagMask mask = { s with flags := { s.flags with flags := s.flags.flags &&& ~~~mask } } := by
  have hfold : s.clearFlagMask mask = (namedFlags mask).foldl State.clearFlag s := List.foldl_filter.symm
  have hflags : ((namedFlags mask).foldl State.clearFlag s).flags.flags = s.flags.flags &&& ~~~mask := by
    refine BitVec.eq_of_getLsbD_eq fun n hn => ?_
    have hbit := s.foldl_clearFlag_isSet (namedFlags mask) ⟨n, hn⟩
    rw [FlagUnit.isSet, FlagUnit.isSet] at hbit
    rw [hbit, BitVec.getLsbD_and, BitVec.getLsbD_not]
    simp [mem_namedFlags, hn]
  rw [hfold, State.foldl_clearFlag_frame, hflags]

/-! ### The takes (R166) -/

theorem exec_setFlags (h : s.commandWaits 10) :
    exec .setFlags s = .next ((s.setFlagMask (s.host.params[1] ++ s.host.params[0])).completed .ok).fill :=
  takeCommand_waits h (code := 10) rfl State.doSetFlags

theorem exec_clearFlags (h : s.commandWaits 11) :
    exec .clearFlags s = .next ((s.clearFlagMask (s.host.params[1] ++ s.host.params[0])).completed .ok).fill :=
  takeCommand_waits h (code := 11) rfl State.doClearFlags

theorem exec_setSignalMasks (h : s.commandWaits 12) :
    exec .setSignalMasks s = .next (({ s with flags := { s.flags with
      accept := s.host.params[1] ++ s.host.params[0]
      notify := s.host.params[3] ++ s.host.params[2] } } : State).completed .ok).fill :=
  takeCommand_waits h (code := 12) rfl State.doSetSignalMasks

/-- The take of an unknown command is that of the codes from 13 on. -/
theorem exec_unknownCommand_take (s : State) :
    exec .unknownCommand s = takeCommand s (fun c => decide (13 ≤ c.toNat)) fun s => (s, .unknownCommand) := rfl

/-- A code of 13 to 255 names no command, and its take carries nothing out. -/
theorem exec_unknownCommand {n : Nat} (hn : 13 ≤ n) (h : s.commandWaits n) :
    exec .unknownCommand s = .next (s.completed .unknownCommand).fill := by
  obtain ⟨hheld, howner, hcode⟩ := h
  rw [exec_unknownCommand_take]
  exact takeCommand_waiting hheld howner (decide_eq_true (hcode ▸ hn)) _

/-- Every command of the slot is the take of its own code (Table 11.3). -/
theorem slotCommands_take : ∀ x ∈ slotCommands, ∃ (code : BitVec 8) (f : State → State × CommandResult),
    code.toNat = x.2 ∧ ∀ s, exec x.1 s = takeCommand s (· == code) f := by
  simp only [slotCommands, List.forall_mem_cons]
  exact ⟨⟨1, State.doJoin, rfl, fun _ => rfl⟩, ⟨2, State.doLeave, rfl, fun _ => rfl⟩,
    ⟨3, State.doStartLane, rfl, fun _ => rfl⟩, ⟨4, State.doStopLane, rfl, fun _ => rfl⟩,
    ⟨5, State.doOpenPort, rfl, fun _ => rfl⟩, ⟨6, State.doClosePort, rfl, fun _ => rfl⟩,
    ⟨7, State.doPostReceive, rfl, fun _ => rfl⟩, ⟨8, State.doLoadWindow, rfl, fun _ => rfl⟩,
    ⟨9, State.doClearWindow, rfl, fun _ => rfl⟩, ⟨10, State.doSetFlags, rfl, fun _ => rfl⟩,
    ⟨11, State.doClearFlags, rfl, fun _ => rfl⟩, ⟨12, State.doSetSignalMasks, rfl, fun _ => rfl⟩, nofun⟩

/-- With no command waiting, or one of another code, a command of the slot has no take (log 16). -/
theorem exec_slotCommand_none {x : Instr × Nat} (hx : x ∈ slotCommands)
    (h : s.host.owner = .host ∨ s.host.code.toNat ≠ x.2) : exec x.1 s = .next s := by
  obtain ⟨code, f, hcode, htake⟩ := slotCommands_take x hx
  rw [htake]
  refine takeCommand_none (h.imp_right fun hne => ?_) f
  exact beq_eq_false_iff_ne.mpr fun he => hne (he ▸ hcode)

theorem exec_unknownCommand_none (h : s.host.owner = .host ∨ s.host.code.toNat < 13) :
    exec .unknownCommand s = .next s := by
  rw [exec_unknownCommand_take]
  exact takeCommand_none (h.imp_right fun hlt => decide_eq_false (Nat.not_le.mpr hlt)) _

/-- Settles O46: each flag command, then the takes that find no command of their code. -/
theorem flagCommandsAndTakes : Obligations.FlagCommandsAndTakes := by
  intro s named
  refine ⟨fun h => ?_, fun h => ?_, exec_setSignalMasks, fun n hn h => exec_unknownCommand hn h,
    fun _ => ⟨fun ho c hc => ?_, fun hlt => exec_unknownCommand_none (.inr hlt), fun c n hx hne => ?_⟩⟩
  · obtain ⟨hframe, hunnamed, hnamed, hlane⟩ := s.setFlagMask_setsEach (s.host.params[1] ++ s.host.params[0])
    refine ⟨_, exec_setFlags h, hframe, fun f hf => hunnamed f (mt mem_namedFlags.mp hf), fun f hf => ?_, fun i => ?_⟩
    · rw [State.setFlag_flags]
      exact hnamed f (mem_namedFlags.mpr hf)
    · intro released
      have hreleased : (namedFlags (s.host.params[1] ++ s.host.params[0])).any (fun f => s.flags.releases f i) = true ↔
          released := by
        simp only [List.any_eq_true, mem_namedFlags, FlagUnit.releases_iff]
        rfl
      refine ⟨fun hr => ?_, fun hr => ?_⟩
      · rw [hlane, if_pos (hreleased.mpr hr)]; rfl
      · rw [hlane, if_neg (mt hreleased.mp hr)]
  · rw [exec_clearFlags h, State.clearFlagMask_eq]
  · have hcommand : c ∈ slotCommands.map Prod.fst ∨ c = .unknownCommand := by
      simpa [slotCommands, or_assoc] using hc
    rcases hcommand with hslot | rfl
    · obtain ⟨x, hx, rfl⟩ := List.mem_map.mp hslot
      exact exec_slotCommand_none hx (.inl ho)
    · exact exec_unknownCommand_none (.inl ho)
  · exact exec_slotCommand_none hx (.inr hne)

end Sys2Proof.Machine
end

section
/-! The orders of the receive unit, its timeouts and its port commands (R109 to R115, R122, R124, R143, R166). -/

namespace Sys2Proof.Machine

variable {s : State} {r : ReceiveUnit} {i : Fin 12} {p : Fin 16} {x : PresenceRecord}

/-! ### Ports after an abandonment of many contexts (R115) -/

/-- What an abandonment of many contexts leaves of a port: it has the completion entries of its contexts, in their order. -/
theorem ReceiveUnit.abandonAll_port (r : ReceiveUnit) (st : ReceiveStatus) (g : Context → Bool) (q : Fin 16) :
    (r.abandonAll st g).ports[q] =
      { r.ports[q] with completions := r.ports[q].completions ++ r.abandonedEntries st g q } := by
  obtain ⟨-, -, -, hports⟩ := r.abandonAll_spec st g
  obtain ⟨hopen, hposted, -⟩ := hports q
  rw [← r.abandonAll_completions st g q]
  simp only [← hopen, ← hposted]

theorem ReceiveUnit.abandonAll_contexts (r : ReceiveUnit) (st : ReceiveStatus) (g : Context → Bool) (i : Fin 12) :
    (r.abandonAll st g).contexts[i] = r.contexts[i].filter fun c => !g c := by
  obtain ⟨hcontexts, -⟩ := r.abandonAll_spec st g
  exact hcontexts i

theorem ReceiveUnit.abandonAll_streams (r : ReceiveUnit) (st : ReceiveStatus) (g : Context → Bool) :
    (r.abandonAll st g).streams = r.streams := by
  obtain ⟨-, hstreams, -⟩ := r.abandonAll_spec st g
  exact hstreams

theorem ReceiveUnit.abandonAll_bufferCount (r : ReceiveUnit) (st : ReceiveStatus) (g : Context → Bool) (q : Fin 16) :
    (r.abandonAll st g).bufferCount q = r.bufferCount q := by
  obtain ⟨-, -, hcounts, -⟩ := r.abandonAll_spec st g
  exact hcounts q

/-- A port none of whose contexts is abandoned gets no completion entry. -/
theorem ReceiveUnit.abandonedEntries_eq_nil {st : ReceiveStatus} {g : Context → Bool} {q : Fin 16}
    (h : ∀ c : Context, g c = true → c.port ≠ q) : r.abandonedEntries st g q = [] := by
  refine List.filterMap_eq_nil_iff.mpr fun i _ => ?_
  rw [Option.map_eq_none_iff, Option.filter_eq_none_iff]
  intro c _ hc
  obtain ⟨hg, hq⟩ := (Bool.and_eq_true _ _).mp hc
  exact h c hg (beq_iff_eq.mp hq)

/-! ### The context timer (R122) -/

theorem exec_contextTimerExpiry (h : s.resetHeld = false) (i : Fin 12) :
    exec (.contextTimerExpiry i) s = .next (s.contextExpires i).fill := event_running h fun s => (s.contextExpires i).fill

theorem Context.expired_iff (c : Context) : c.expired = true ↔ 262143 ≤ c.age := by
  rw [Context.expired, reached, decide_eq_true_eq, Config.contextTimeout]
  omega

/-- A context whose timer has reached C is abandoned once the take in progress is complete (R115, R122). -/
theorem State.contextExpires_acts {c : Context} (hc : s.settleTake.recv.contexts[i] = some c) (ha : 262143 ≤ c.age) :
    s.contextExpires i = { s.settleTake with recv := s.settleTake.recv.abandon i .abandoned } := by
  rw [State.contextExpires]
  refine if_pos ?_
  rw [hc]
  exact c.expired_iff.mpr ha

/-- A free entry, or a context whose timer has restarted, gives nothing (log 5). -/
theorem State.contextExpires_waits (h : ∀ c, s.settleTake.recv.contexts[i] = some c → c.age < 262143) :
    s.contextExpires i = s := by
  rw [State.contextExpires]
  refine if_neg fun hany => ?_
  obtain ⟨c, hc, he⟩ := (Option.any_eq_true _ _).mp hany
  exact absurd (c.expired_iff.mp he) (Nat.not_le.mpr (h c hc))

/-! ### The presence timer (R143) -/

theorem exec_presenceTimerExpiry (h : s.resetHeld = false) (p : Fin 32) :
    exec (.presenceTimerExpiry p) s = .next (s.presenceExpires p).fill := event_running h fun s => (s.presenceExpires p).fill

theorem PresenceRecord.expired_iff : x.expired = true ↔ ∃ n, x.heard = some n ∧ 65535 ≤ n := by
  rw [PresenceRecord.expired, Option.any_eq_true]
  refine exists_congr fun n => and_congr_right fun _ => ?_
  rw [reached, decide_eq_true_eq, Config.presenceTimeout]
  omega

/-- The state after an expiry that acts (R124, R143): the record is ABSENT, the peer is in the changed-pending mask, and
its contexts are abandoned. -/
def State.becomesAbsent (s : State) (p : Fin 32) : State :=
  { s with
    presence :=
      { records := s.presence.records.set p { s.presence.records[p] with state := .absent, heard := some 65536 }
        changed := s.presence.changed ||| BitVec.twoPow 32 p.val }
    recv := s.recv.abandonAll .peerAbsent fun c => c.source == p }

/-- A state with another presence table and receive unit differs from the first in these alone. -/
theorem State.eq_with_of_presence_recv {u : State} {x : PresenceTable} {y : ReceiveUnit}
    (h : u = { s with presence := x, recv := y }) : u = { s with presence := u.presence, recv := u.recv } := by
  subst h
  rfl

theorem State.presenceExpires_acts {p : Fin 32} {n : Nat} (ho : s.onLine = true) (hp : p ≠ s.ctl.number)
    (hs : s.presence.records[p].state = .present) (hn : s.presence.records[p].heard = some n) (hlimit : 65535 ≤ n) :
    s.presenceExpires p = s.settleTake.becomesAbsent p :=
  if_pos ⟨ho, hp, hs, PresenceRecord.expired_iff.mpr ⟨n, hn, hlimit⟩⟩

/-- Off the line, at the own record, at one that is not PRESENT and at a restarted timer nothing expires (R143, log 5). -/
theorem State.presenceExpires_waits {p : Fin 32} (h : s.onLine = false ∨ p = s.ctl.number ∨
      s.presence.records[p].state ≠ .present ∨ ∀ n, s.presence.records[p].heard = some n → n < 65535) :
    s.presenceExpires p = s := by
  refine if_neg fun ⟨ho, hp, hs, he⟩ => ?_
  obtain ⟨n, hn, hlimit⟩ := PresenceRecord.expired_iff.mp he
  rcases h with h | h | h | h
  · rw [h] at ho; cases ho
  · exact hp h
  · exact h hs
  · exact absurd hlimit (Nat.not_le.mpr (h n hn))

/-- Settles O19: each expiry at its limit, and short of it or with nothing to expire. -/
theorem contextAndPresenceTimeouts : Obligations.ContextAndPresenceTimeouts := by
  refine ⟨fun s i h => ?_, fun s p h => ?_⟩
  · intro b
    rw [exec_contextTimerExpiry h]
    refine ⟨fun c hc ha => ?_, fun hn => ?_⟩
    · rw [State.contextExpires_acts hc ha, ReceiveUnit.abandon_some hc]
      rfl
    · rw [State.contextExpires_waits hn]
  · intro b
    rw [exec_presenceTimerExpiry h]
    refine ⟨fun n ho hp hs hn hlimit => ?_, fun hw => ?_⟩
    · rw [State.presenceExpires_acts ho hp hs hn hlimit]
      refine ⟨b.becomesAbsent p, rfl, State.eq_with_of_presence_recv rfl, ?_, rfl, ?_, fun i => ?_, fun q => ?_⟩
      · rw [State.becomesAbsent, State.settleTake_records]
      · rw [State.becomesAbsent, ReceiveUnit.abandonAll_streams]
      · rw [State.becomesAbsent, ReceiveUnit.abandonAll_contexts]
        rfl
      · rw [State.becomesAbsent, ReceiveUnit.abandonAll_port, ReceiveUnit.abandonAll_bufferCount]
        exact ⟨rfl, rfl, rfl, rfl⟩
    · rw [State.presenceExpires_waits hw]

/-! ### The port that parameter 0 names (R167) -/

theorem State.paramPort_none (h : 15 < s.host.params[0].toNat) : s.paramPort = none := numberBelow_none h

theorem State.paramPort_some (h : s.host.params[0].toNat = p.val) : s.paramPort = some p := numberBelow_some h

/-! ### OPEN PORT (R112) -/

theorem exec_openPort (h : s.commandWaits 5) :
    exec .openPort s = .next (s.doOpenPort.1.completed s.doOpenPort.2).fill :=
  takeCommand_waits h (code := 5) rfl State.doOpenPort

theorem State.doOpenPort_noPort (h : 15 < s.host.params[0].toNat) : s.doOpenPort = (s, .badParameter) := by
  rw [State.doOpenPort, State.paramPort_none h]

theorem State.doOpenPort_port (h : s.host.params[0].toNat = p.val) :
    s.doOpenPort = ({ s.settleTake with
      recv := s.settleTake.recv.updatePort p fun x => { x with isOpen := true } }, .ok) := by
  rw [State.doOpenPort, State.paramPort_some h]

/-! ### CLOSE PORT (R113) -/

theorem exec_closePort (h : s.commandWaits 6) :
    exec .closePort s = .next (s.doClosePort.1.completed s.doClosePort.2).fill :=
  takeCommand_waits h (code := 6) rfl State.doClosePort

theorem State.doClosePort_noPort (h : 15 < s.host.params[0].toNat) : s.doClosePort = (s, .badParameter) := by
  rw [State.doClosePort, State.paramPort_none h]

theorem State.doClosePort_port (h : s.host.params[0].toNat = p.val) :
    s.doClosePort = ({ s.settleTake with recv := s.settleTake.recv.closePort p }, .ok) := by
  rw [State.doClosePort, State.paramPort_some h]

theorem ReceiveUnit.closePort_contexts (r : ReceiveUnit) (p : Fin 16) (i : Fin 12) :
    (r.closePort p).contexts[i] = r.contexts[i].filter fun c => c.port != p := by
  rw [ReceiveUnit.closePort, ReceiveUnit.updatePort_contexts, ReceiveUnit.abandonAll_contexts,
    ReceiveUnit.updatePort_contexts]
  rfl

theorem ReceiveUnit.closePort_streams (r : ReceiveUnit) (p : Fin 16) : (r.closePort p).streams = r.streams := by
  rw [ReceiveUnit.closePort, ReceiveUnit.updatePort_streams, ReceiveUnit.abandonAll_streams,
    ReceiveUnit.updatePort_streams]

/-- What CLOSE PORT leaves of each port (R113): its own is closed, its contexts are abandoned and its posted buffers
returned, in this order. -/
theorem ReceiveUnit.closePort_port (r : ReceiveUnit) (p q : Fin 16) :
    (r.closePort p).ports[q] =
      if q = p then
        { isOpen := false
          posted := []
          completions := r.ports[p].completions ++ r.abandonedEntries .closed (fun c => c.port == p) p ++
            r.ports[p].posted.map Buffer.returned }
      else r.ports[q] := by
  rw [ReceiveUnit.closePort, ReceiveUnit.ports_updatePort_get]
  simp only [ReceiveUnit.abandonAll_port, ReceiveUnit.ports_updatePort_get, if_true]
  split
  · rfl
  · have hnone : ReceiveUnit.abandonedEntries (r.updatePort p fun x => { x with isOpen := false }) .closed
        (fun c => c.port == p) q = [] :=
      ReceiveUnit.abandonedEntries_eq_nil fun c hc hq => ‹¬q = p› (hq.symm.trans (beq_iff_eq.mp hc))
    rw [hnone, List.append_nil]

/-- The closed port counts as many buffers as before: each is in its completion list now (R110, R113). -/
theorem ReceiveUnit.closePort_bufferCount (r : ReceiveUnit) (p : Fin 16) :
    (r.closePort p).bufferCount p = r.bufferCount p := by
  have hclosed : ((r.updatePort p fun x => { x with isOpen := false }).abandonAll .closed
      fun c => c.port == p).bufferCount p = r.bufferCount p := by
    rw [ReceiveUnit.abandonAll_bufferCount, ReceiveUnit.bufferCount_updatePort, if_pos rfl]
    rfl
  rw [ReceiveUnit.closePort, ReceiveUnit.bufferCount_updatePort, if_pos rfl, ← hclosed, ReceiveUnit.bufferCount]
  simp only [List.length_append, List.length_map, List.length_nil]
  omega

/-! ### POST RECEIVE (R111) -/

theorem exec_postReceive (h : s.commandWaits 7) :
    exec .postReceive s = .next (s.doPostReceive.1.completed s.doPostReceive.2).fill :=
  takeCommand_waits h (code := 7) rfl State.doPostReceive

theorem State.doPostReceive_noPort (h : 15 < s.host.params[0].toNat) : s.doPostReceive = (s, .badParameter) := by
  rw [State.doPostReceive, State.paramPort_none h]

/-- POST RECEIVE at a port: the buffer is judged, then the port's buffer count. -/
theorem State.doPostReceive_port (h : s.host.params[0].toNat = p.val) :
    s.doPostReceive =
      if s.host.params[2].toNat < 1 ∨ 2048 < s.host.params[2].toNat ∨ 16383 < s.host.params[1].toNat ∨
          16384 < s.host.params[1].toNat + s.host.params[2].toNat then (s, .badParameter)
      else if s.recv.bufferCount p = 8 then (s, .portFull)
      else ({ s.settleTake with recv := s.settleTake.recv.updatePort p fun x => { x with
        posted := x.posted ++ [{ address := s.host.params[1].toNat, capacity := s.host.params[2].toNat }] } }, .ok) := by
  rw [State.doPostReceive, State.paramPort_some h]
  rfl

/-- A posted buffer counts (R110, R111). -/
theorem ReceiveUnit.post_bufferCount (r : ReceiveUnit) (p : Fin 16) (b : Buffer) :
    (r.updatePort p fun x => { x with posted := x.posted ++ [b] }).bufferCount p = r.bufferCount p + 1 := by
  rw [ReceiveUnit.bufferCount_updatePort, if_pos rfl, ReceiveUnit.bufferCount]
  simp only [List.length_append, List.length_singleton]
  omega

/-- Settles O44: each command without a port, then at its port in the order of its judgement. -/
theorem portCommands : Obligations.PortCommands := by
  intro s b
  refine ⟨fun hn => ⟨fun h => ?_, fun h => ?_, fun h => ?_⟩, fun p hp => ⟨fun h => ?_, fun h => ?_, fun h => ?_⟩⟩
  · rw [exec_openPort h, State.doOpenPort_noPort hn]
  · rw [exec_closePort h, State.doClosePort_noPort hn]
  · rw [exec_postReceive h, State.doPostReceive_noPort hn]
  · rw [exec_openPort h, State.doOpenPort_port hp]
    rfl
  · rw [exec_closePort h, State.doClosePort_port hp]
    have hport := b.recv.closePort_port p p
    rw [if_pos rfl] at hport
    refine ⟨b.recv.closePort p, rfl, b.recv.closePort_streams p, fun q hq => ?_, ?_, ?_, ?_, b.recv.closePort_contexts p,
      b.recv.closePort_bufferCount p⟩
    · rw [ReceiveUnit.closePort_port, if_neg hq]
    all_goals rw [hport]
    rfl
  · intro a n
    rw [exec_postReceive h, State.doPostReceive_port hp]
    have hfits (hlow : 1 ≤ n) (hhigh : n ≤ 2048) (hend : a + n ≤ 16384) :
        ¬(n < 1 ∨ 2048 < n ∨ 16383 < a ∨ 16384 < a + n) := by omega
    refine ⟨fun hbad => ?_, fun hlow hhigh hend hfull => ?_, fun hlow hhigh hend hroom => ⟨?_, ?_⟩⟩
    · rw [if_pos hbad]
    · rw [if_neg (hfits hlow hhigh hend), if_pos hfull]
    · rw [if_neg (hfits hlow hhigh hend), if_neg hroom]
      rfl
    · exact b.recv.post_bufferCount p { address := a, capacity := n }

end Sys2Proof.Machine
end

section
/-! What a valid header does at the presence table, and the purge of a restarted peer (R125, R141, R142). -/

namespace Sys2Proof.Machine

variable {s : State} {r : ReceiveUnit} {h : Header} {x : PresenceRecord} {e : BitVec 4}

/-! ### The presence table (R141, R142) -/

theorem PresenceRecord.restarted_iff : x.restarted e = true ↔ ∃ y, x.epoch = some y ∧ y ≠ e := by
  unfold PresenceRecord.restarted
  cases x.epoch with
  | none => simp
  | some y => simp

/-- With no epoch recorded, or the same, the peer has not restarted. -/
theorem PresenceRecord.not_restarted (hx : x.epoch = none ∨ x.epoch = some e) : x.restarted e = false := by
  refine Bool.eq_false_iff.mpr fun hr => ?_
  obtain ⟨y, hy, hne⟩ := PresenceRecord.restarted_iff.mp hr
  rcases hx with hx | hx
  · rw [hx] at hy; cases hy
  · rw [hx] at hy; cases hy; exact hne rfl

theorem PresenceTable.hear_records (t : PresenceTable) (p : Fin 32) (e : BitVec 4) :
    (t.hear p e).records = t.records.set p { state := .present, epoch := some e, heard := some 0 } := by
  unfold PresenceTable.hear PresenceTable.noteChange
  simp only
  split <;> rfl

/-- A change of state or of epoch adds the peer to the changed-pending mask (R145). -/
theorem PresenceTable.hear_changed {t : PresenceTable} {p : Fin 32}
    (hc : t.records[p].state ≠ .present ∨ t.records[p].restarted e = true) :
    (t.hear p e).changed = t.changed ||| BitVec.twoPow 32 p.val := by
  have hnote : (t.records[p].state != .present || t.records[p].restarted e) = true := by
    simpa only [Bool.or_eq_true, bne_iff_ne] using hc
  unfold PresenceTable.hear PresenceTable.noteChange
  simp only
  rw [if_pos hnote]
  rfl

theorem PresenceTable.hear_unchanged {t : PresenceTable} {p : Fin 32} (hs : t.records[p].state = .present)
    (hr : t.records[p].restarted e = false) : (t.hear p e).changed = t.changed := by
  have hnote : ¬(t.records[p].state != .present || t.records[p].restarted e) = true := by
    rw [hs, hr]
    decide
  unfold PresenceTable.hear PresenceTable.noteChange
  simp only
  rw [if_neg hnote]
  rfl

/-! ### The purge (R125) -/

theorem ReceiveUnit.purgeOrder_stream (r : ReceiveUnit) (q p : Fin 32) (l : Fin 8) :
    (r.purgeOrder q).stream p l = if p = q then none else r.stream p l := by
  rw [ReceiveUnit.purgeOrder, ReceiveUnit.stream_clearStreams, ReceiveUnit.stream, ReceiveUnit.abandonAll_streams]
  rfl

theorem ReceiveUnit.purgeOrder_port (r : ReceiveUnit) (p : Fin 32) (q : Fin 16) :
    (r.purgeOrder p).ports[q] = { r.ports[q] with
      completions := r.ports[q].completions ++ r.abandonedEntries .peerRestarted (fun c => c.source == p) q } := by
  rw [ReceiveUnit.purgeOrder, ReceiveUnit.clearStreams_ports, ReceiveUnit.abandonAll_port]

/-! ### A header at the presence table -/

/-- A header of the own station, or of a number that is not on the line, teaches nothing of a peer (R141). -/
theorem State.presenceTakes_own (hn : s.ctl.count ≤ h.source.val ∨ h.source = s.ctl.number) : s.presenceTakes h = s :=
  if_neg fun ⟨hlt, hne⟩ => hn.elim (Nat.not_le.mpr hlt) hne

theorem State.presenceTakes_peer (hlt : h.source.val < s.ctl.count) (hne : h.source ≠ s.ctl.number) :
    s.presenceTakes h = { s with
      presence := s.presence.hear h.source h.epoch
      recv := if s.presence.records[h.source].restarted h.epoch then s.recv.purgeOrder h.source else s.recv } :=
  if_pos ⟨hlt, hne⟩

/-- The state when the station controller has taken a valid header and the presence table has not (R18). -/
def State.beforePresence (s : State) (ws : List Word) : State :=
  { s.atFrameEnd with
    ctl := s.atFrameEnd.ctl.takeHeader (s.incoming ws).frameClass (s.incoming ws).header }

theorem State.afterHeader_presenceTakes (s : State) (ws : List Word) :
    s.afterHeader ws = (s.beforePresence ws).presenceTakes (s.incoming ws).header := rfl

theorem State.beforePresence_ctl (s : State) (ws : List Word) : (s.beforePresence ws).ctl = (s.afterHeader ws).ctl := by
  rw [State.afterHeader_presenceTakes, State.presenceTakes_eq]

theorem State.beforePresence_records (s : State) (ws : List Word) :
    (s.beforePresence ws).presence.records = s.presence.records := s.settleTake_records

/-- Settles O48: a header that the presence table passes over, then one of a peer, by the peer's old record. -/
theorem headersAreHeard : Obligations.HeadersAreHeard := by
  intro s f h e b old
  have hb : b = (s.beforePresence f.words).presenceTakes h := s.afterHeader_presenceTakes f.words
  have hcount : (s.beforePresence f.words).ctl.count = s.ctl.count := by
    rw [State.beforePresence_ctl, State.afterHeader_count]
  have hnumber : (s.beforePresence f.words).ctl.number = s.ctl.number := by
    rw [State.beforePresence_ctl, State.afterHeader_number]
  have hold : (s.beforePresence f.words).presence.records[h.source] = old := by rw [State.beforePresence_records]
  refine ⟨?_, fun hn => ?_, fun hlt hne => ?_⟩
  · rw [hb, State.presenceTakes_eq]
    rfl
  · rw [hb, State.presenceTakes_own (by rwa [hcount, hnumber])]
    exact ⟨rfl, rfl⟩
  · have hpeer := State.presenceTakes_peer (s := s.beforePresence f.words) (h := h) (by rwa [hcount]) (by rwa [hnumber])
    rw [← hb] at hpeer
    have hpresence : b.presence = e.presence.hear h.source h.epoch := by rw [hpeer]; rfl
    have hrecv : b.recv = if old.restarted h.epoch then e.recv.purgeOrder h.source else e.recv := by
      rw [hpeer, ← hold]; rfl
    rw [hpresence]
    refine ⟨?_, fun hc => ?_, fun hs hsame => ?_, fun hsame => ?_, fun x hx hdiffers => ?_⟩
    · rw [PresenceTable.hear_records]
      exact congrArg (fun v : Vector PresenceRecord 32 => v.set h.source _) (s.beforePresence_records f.words)
    · exact PresenceTable.hear_changed (hold ▸ hc.imp_right PresenceRecord.restarted_iff.mpr)
    · exact PresenceTable.hear_unchanged (hold ▸ hs) (hold ▸ PresenceRecord.not_restarted hsame)
    · rw [hrecv, PresenceRecord.not_restarted hsame]
      rfl
    · rw [hrecv, if_pos (PresenceRecord.restarted_iff.mpr ⟨x, hx, hdiffers⟩)]
      obtain ⟨hcontexts, -, hcounts⟩ := e.recv.purgeOrder_spec h.source
      refine ⟨hcontexts, e.recv.purgeOrder_stream h.source, fun q => ?_⟩
      rw [ReceiveUnit.purgeOrder_port, hcounts q]
      exact ⟨rfl, rfl, rfl, rfl⟩

end Sys2Proof.Machine
end

section
/-! DATA at the receive unit (Table 7.4, R117 to R121): the judgement, and the store of a segment (R161). -/

namespace Sys2Proof.Machine

variable {s t : State} {r : ReceiveUnit} {h : Header} {c : Context} {i : Fin 12} {ws : List Word} {f : FrameEnd}
  {code : ReplyCode}

/-! ### The context of a key (R117) -/

theorem ReceiveUnit.findKey_of_unique (hc : r.contexts[i] = some c) (hs : c.source = h.source) (hl : c.lane = h.sourceLane)
    (hu : ∀ (j : Fin 12) d, r.contexts[j] = some d → d.source = h.source → d.lane = h.sourceLane → j = i) :
    r.findKey h.source h.sourceLane = some i := by
  rw [ReceiveUnit.findKey, ← Fin.find?_eq_find?_finRange, Fin.find?_eq_some_iff]
  refine ⟨(Option.any_eq_true _ _).mpr ⟨c, hc, by simp [hs, hl]⟩, fun j hj => ?_⟩
  rw [Bool.eq_false_iff, ne_eq, Option.any_eq_true]
  rintro ⟨d, hd, hkey⟩
  simp only [Bool.and_eq_true, beq_iff_eq] at hkey
  exact hj.ne (hu j d hd hkey.1 hkey.2)

theorem ReceiveUnit.findKey_of_keyFree (hfree : r.keyFree h) : r.findKey h.source h.sourceLane = none := by
  rw [ReceiveUnit.findKey, ← Fin.find?_eq_find?_finRange, Fin.find?_eq_none_iff]
  intro j
  rw [Bool.eq_false_iff, ne_eq, Option.any_eq_true]
  rintro ⟨d, hd, hkey⟩
  simp only [Bool.and_eq_true, beq_iff_eq] at hkey
  exact hfree j d hd hkey

theorem ReceiveUnit.freeEntry_of_lowest (hi : r.contexts[i] = none) (hmin : ∀ j : Fin 12, j < i → r.contexts[j] ≠ none) :
    r.freeEntry = some i := by
  rw [ReceiveUnit.freeEntry, ← Fin.find?_eq_find?_finRange, Fin.find?_eq_some_iff]
  refine ⟨Option.isNone_iff_eq_none.mpr hi, fun j hj => ?_⟩
  rw [Bool.eq_false_iff, ne_eq, Option.isNone_iff_eq_none]
  exact hmin j hj

theorem ReceiveUnit.freeEntry_of_full (hfull : ∀ i : Fin 12, r.contexts[i] ≠ none) : r.freeEntry = none := by
  rw [ReceiveUnit.freeEntry, ← Fin.find?_eq_find?_finRange, Fin.find?_eq_none_iff]
  intro j
  rw [Bool.eq_false_iff, ne_eq, Option.isNone_iff_eq_none]
  exact hfull j

theorem ReceiveUnit.streamMatches_iff :
    r.streamMatches h = true ↔
      ∃ x, r.stream h.source h.sourceLane = some x ∧ x.epoch = h.epoch ∧ x.lastCompleted = h.message := by
  unfold ReceiveUnit.streamMatches
  cases r.stream h.source h.sourceLane <;> simp

theorem Context.sameMessage_iff :
    c.sameMessage h = true ↔ c.message = h.message ∧ c.port = h.port ∧ c.length = h.messageLength := by
  simp [Context.sameMessage, and_assoc]

/-! ### The judgement of DATA (Table 7.4) -/

theorem State.dataArrival_closed (ho : s.recv.ports[h.port].isOpen = false) :
    s.dataArrival h ws false = .ok (s, .refusedClosed) := by
  rw [State.dataArrival, if_neg (by decide), if_pos (by rw [ho]; rfl)]

theorem State.dataArrival_context (ho : s.recv.ports[h.port].isOpen = true)
    (hf : s.recv.findKey h.source h.sourceLane = some i) (hc : s.recv.contexts[i] = some c) :
    s.dataArrival h ws false = s.dataWithContext i c h ws := by
  rw [State.dataArrival, if_neg (by decide), if_neg (by rw [ho]; decide), hf]
  simp only [hc]

theorem State.dataArrival_noContext (ho : s.recv.ports[h.port].isOpen = true) (hfree : s.recv.keyFree h) :
    s.dataArrival h ws false = s.dataWithoutContext h ws := by
  rw [State.dataArrival, if_neg (by decide), if_neg (by rw [ho]; decide), ReceiveUnit.findKey_of_keyFree hfree]

/-- A segment that was stored before restarts the timer (R118). -/
theorem State.dataWithContext_again (hm : c.sameMessage h = true) (hn : h.index < c.next) :
    s.dataWithContext i c h ws =
      .ok ({ s with recv := s.recv.setContext i (some { c with age := 0 }) }, .accepted) := by
  rw [State.dataWithContext, if_pos hm, if_pos hn]

/-- The awaited segment is stored (R119). -/
theorem State.dataWithContext_awaited (hm : c.sameMessage h = true) (hn : h.index = c.next)
    (hs : s.storeSegment i c ws false = .ok t) : s.dataWithContext i c h ws = .ok (t, .accepted) := by
  rw [State.dataWithContext, if_pos hm, if_neg (by omega), if_pos hn, hs]

/-- A segment after the awaited one abandons the context (R118). -/
theorem State.dataWithContext_gap (hm : c.sameMessage h = true) (hn : c.next < h.index) :
    s.dataWithContext i c h ws = .ok ({ s with recv := s.recv.abandon i .gap }, .refusedStray) := by
  rw [State.dataWithContext, if_pos hm, if_neg (by omega), if_neg (by omega)]

/-- A later segment of another message is refused (R118). -/
theorem State.dataWithContext_stray (hm : ¬c.sameMessage h = true) (hn : 0 < h.index) :
    s.dataWithContext i c h ws = .ok (s, .refusedStray) := by
  rw [State.dataWithContext, if_neg hm, if_neg (by omega)]

/-- The first segment of another message supersedes the context (R118). -/
theorem State.dataWithContext_superseded (hm : ¬c.sameMessage h = true) (hn : h.index = 0) :
    s.dataWithContext i c h ws = { s with recv := s.recv.abandon i .superseded }.dataWithoutContext h ws := by
  rw [State.dataWithContext, if_neg hm, if_pos hn]

theorem State.dataWithoutContext_again (hm : s.recv.streamMatches h = true) :
    s.dataWithoutContext h ws = .ok (s, .accepted) := if_pos hm

theorem State.dataWithoutContext_stray (hm : ¬s.recv.streamMatches h = true) (hn : 0 < h.index) :
    s.dataWithoutContext h ws = .ok (s, .refusedStray) := by
  rw [State.dataWithoutContext, if_neg hm, if_pos hn]

theorem State.dataWithoutContext_new (hm : ¬s.recv.streamMatches h = true) (hn : h.index = 0) :
    s.dataWithoutContext h ws = s.newMessage h ws := by
  rw [State.dataWithoutContext, if_neg hm, if_neg (by omega)]

/-! ### A new message (R121) -/

theorem State.newMessage_pending (hp : s.recv.ports[h.port].completions ≠ []) :
    s.newMessage h ws = .ok (s, .busyPending) := by
  refine if_pos ?_
  rw [Bool.not_eq_true', Bool.eq_false_iff, ne_eq, List.isEmpty_iff]
  exact hp

/-- With no completion pending the port's posted queue is looked at. -/
theorem State.newMessage_ready (hp : s.recv.ports[h.port].completions = []) :
    s.newMessage h ws =
      match s.recv.ports[h.port].posted, s.recv.freeEntry with
      | [], _ => .ok (s, .busyNoBuffer)
      | _ :: _, none => .ok (s, .busyNoContext)
      | b :: _, some i =>
        if b.capacity < h.messageLength then .ok (s, .refusedLength)
        else (s.storeSegment i (newContext h b) ws true).map fun u => (u, .accepted) := by
  rw [State.newMessage]
  simp only [hp, List.isEmpty_nil, Bool.not_true, Bool.false_eq_true, if_false]
  cases s.recv.ports[h.port].posted with
  | nil => rfl
  | cons b rest =>
    cases s.recv.freeEntry with
    | none => rfl
    | some i =>
      simp only
      split
      · rfl
      · cases s.storeSegment i (newContext h b) ws true <;> rfl

/-! ### The store of a segment (R119, R161) -/

/-- A segment of context `c` is about to be stored: its take stands at the first word (R119, R161). -/
def State.storing (s : State) (i : Fin 12) (c : Context) (ws : List Word) (opens : Bool) : State :=
  { s with
    mem :=
      { s.mem with
        take := some
          { address := c.buffer.address + 32 * c.next
            work := .store ws (.segment i (c.stored32 ws) opens)
            claimed := false } } }

theorem State.storeSegment_inside {opens : Bool} (hin : c.buffer.address + 32 * c.next + ws.length ≤ 16384) :
    s.storeSegment i c ws opens = .ok (s.storing i c ws opens) := State.beginTake_eq hin

/-- The same segment is stored, and the receive unit has done what follows (R119, R121). -/
def State.storedSegment (s : State) (i : Fin 12) (c : Context) (ws : List Word) (opens : Bool) : State :=
  { s with
    recv := s.recv.segmentStored i (c.stored32 ws) opens
    mem := { s.mem with cells := writeCells s.mem.cells (c.buffer.address + 32 * c.next) ws } }

/-- The take of a segment store, its reply owed, ends with the segment stored (R161). -/
theorem State.storing_finishTake {opens : Bool} (ht : s.mem.take = none) :
    ((s.storing i c ws opens).answer h code []).finishTake = (s.storedSegment i c ws opens).answer h code [] := by
  rw [State.finishTake_store (k := { address := c.buffer.address + 32 * c.next
                                     work := .store ws (.segment i (c.stored32 ws) opens), claimed := false }) rfl rfl,
    ← ht]
  rfl

theorem State.storedSegment_recv (s : State) (i : Fin 12) (c : Context) (ws : List Word) (opens : Bool) :
    (s.storedSegment i c ws opens).recv = s.recv.segmentStored i (c.stored32 ws) opens := rfl

theorem State.storedSegment_frame (s : State) (i : Fin 12) (c : Context) (ws : List Word) (opens : Bool) :
    s.storedSegment i c ws opens = { s with
      recv := (s.storedSegment i c ws opens).recv
      mem := { s.mem with cells := (s.storedSegment i c ws opens).mem.cells } } := rfl

theorem State.storedSegment_word {opens : Bool} {k : Nat} {w : Word} (hw : ws[k]? = some w) :
    (s.storedSegment i c ws opens).word (c.buffer.address + 32 * c.next + k) = w := by
  obtain ⟨hk, hget⟩ := List.getElem?_eq_some_iff.mp hw
  rw [State.word, State.storedSegment, readCell_writeCells, if_pos (by omega), Nat.add_sub_cancel_left,
    List.getD_eq_getElem _ _ hk, hget]

theorem State.storedSegment_word_outside {opens : Bool} {a : Nat}
    (ha : a < c.buffer.address + 32 * c.next ∨ c.buffer.address + 32 * c.next + ws.length ≤ a) :
    (s.storedSegment i c ws opens).word a = s.word a := by
  rw [State.word, State.storedSegment, readCell_writeCells, if_neg (by omega)]
  rfl

/-! ### The delivery as a whole -/

/-- DATA at its block leaves what the receive unit makes of it, its take served, with the receive unit's answer. -/
theorem exec_frameDelivery_data (hr : s.reachesBlock f.words) (hk : (s.incoming f.words).header.kind = some .data)
    (hd : (s.afterHeader f.words).dataArrival (s.incoming f.words).header (s.incoming f.words).payload false =
      .ok (t, code)) :
    exec (.frameDelivery f) s = .next (((t.answer (s.incoming f.words).header code []).servesTake f.pause).fill) := by
  have hand : (s.afterHeader f.words).handOn (s.incoming f.words) = .ok (t.answer (s.incoming f.words).header code []) := by
    rw [State.handOn]
    simp only [hk]
    rw [hr.payloadGood, hd, State.answered]
  exact exec_frameDelivery_judged hr.1 ((State.judge_of_reachesBlock hr).trans hand)

/-- DATA that the receive unit answers without a store. -/
theorem exec_frameDelivery_dataAnswered (hr : s.reachesBlock f.words)
    (hk : (s.incoming f.words).header.kind = some .data)
    (hd : (s.afterHeader f.words).dataArrival (s.incoming f.words).header (s.incoming f.words).payload false =
      .ok (t, code)) (hm : t.mem = (s.afterHeader f.words).mem) :
    exec (.frameDelivery f) s = .next (t.answer (s.incoming f.words).header code []).fill := by
  have htake : (t.answer (s.incoming f.words).header code []).mem.take = none := by
    rw [State.answer_mem, hm, State.afterHeader_take]
  rw [exec_frameDelivery_data hr hk hd, State.servesTake_none htake]

/-! ### What the store of a segment leaves (R119) -/

/-- A segment before the last leaves its context open. -/
theorem ReceiveUnit.segmentStored_open (hn : c.next ≠ segmentCount c.length) :
    r.segmentStored i c false = { r with contexts := r.contexts.set i (some c) } :=
  r.afterStore_more i c hn

/-- The last segment of an open context frees its entry. -/
theorem ReceiveUnit.segmentStored_last_contexts (hn : c.next = segmentCount c.length) :
    (r.segmentStored i c false).contexts = r.contexts.set i none := by
  rw [ReceiveUnit.segmentStored_more, ReceiveUnit.afterStore_last _ _ _ hn]
  rfl

/-- The last segment of an open context gives its port the completion entry. -/
theorem ReceiveUnit.segmentStored_last_ports (hn : c.next = segmentCount c.length) :
    (r.segmentStored i c false).ports = r.ports.set c.port { r.ports[c.port] with
      completions := r.ports[c.port].completions ++ [c.completion .complete c.length] } := by
  rw [ReceiveUnit.segmentStored_more, ReceiveUnit.afterStore_last _ _ _ hn]
  rfl

/-- The last segment of a message sets the stream record of its key (R116). -/
theorem ReceiveUnit.segmentStored_last_stream {opens : Bool} (hn : c.next = segmentCount c.length) (q : Fin 32)
    (l : Fin 8) :
    (r.segmentStored i c opens).stream q l =
      if q = c.source ∧ l = c.lane then some { epoch := c.epoch, lastCompleted := c.message } else r.stream q l := by
  have hstreams : (if opens then r.takeHead c.port else r).stream q l = r.stream q l := by cases opens <;> rfl
  rw [← hstreams, ReceiveUnit.segmentStored, ReceiveUnit.afterStore_last _ _ _ hn]
  exact ReceiveUnit.stream_setStream _ _ _ _ _ _

/-- Settles O50: the closed port, then the frame's segment against the one that its context awaits. -/
theorem dataAtAnOpenContext : Obligations.DataAtAnOpenContext := by
  intro s f hr hk h payload b answer
  have hopen : b.recv.ports[h.port].isOpen = s.recv.ports[h.port].isOpen := s.afterHeader_isOpen f.words h.port
  refine ⟨fun hclosed => ?_, fun i c ho hc hs hl hu => ?_⟩
  · exact exec_frameDelivery_dataAnswered hr hk (State.dataArrival_closed (hopen.trans hclosed)) rfl
  intro same withContext
  have hsame : c.sameMessage h = true ↔ same := Context.sameMessage_iff
  have harrives : b.dataArrival h payload false = b.dataWithContext i c h payload :=
    State.dataArrival_context (hopen.trans ho) (ReceiveUnit.findKey_of_unique hc hs hl hu) hc
  have hanswered {t : State} {code : ReplyCode} (hd : b.dataWithContext i c h payload = .ok (t, code))
      (hm : t.mem = b.mem) : exec (.frameDelivery f) s = .next (answer t code).fill :=
    exec_frameDelivery_dataAnswered hr hk (harrives.trans hd) hm
  refine ⟨fun hm hn => ?_, fun hm hn => ?_, fun hm hn => ?_, fun hm hn hin => ?_⟩
  · exact hanswered (State.dataWithContext_again (hsame.mpr hm) hn) rfl
  · rw [hanswered (State.dataWithContext_gap (hsame.mpr hm) hn) rfl, ReceiveUnit.abandon_some hc]
    rfl
  · exact hanswered (State.dataWithContext_stray (mt hsame.mp hm) hn) rfl
  · intro take u
    have hstores := State.dataWithContext_awaited (hsame.mpr hm) hn (State.storeSegment_inside (s := b) (i := i) hin)
    refine ⟨b.storedSegment i c payload false, exec_frameDelivery_data hr hk (harrives.trans hstores),
      State.storing_finishTake (s.afterHeader_take f.words), b.storedSegment_frame i c payload false,
      fun k w hw => State.storedSegment_word hw, fun a ha => State.storedSegment_word_outside ha, fun hmore => ?_,
      fun hlast => ?_⟩
    · rw [State.storedSegment_recv]
      exact ReceiveUnit.segmentStored_open (c := c.stored32 payload) hmore
    · rw [State.storedSegment_recv]
      exact ⟨ReceiveUnit.segmentStored_last_contexts (c := c.stored32 payload) hlast,
        ReceiveUnit.segmentStored_last_ports (c := c.stored32 payload) hlast,
        ReceiveUnit.segmentStored_last_stream (c := c.stored32 payload) hlast⟩

end Sys2Proof.Machine
end

section
/-! DATA that opens a context: the judgement of a new message, and the store of its first segment (R118 to R121). -/

namespace Sys2Proof.Machine

variable {s : State} {r : ReceiveUnit} {h : Header} {c : Context} {i : Fin 12} {ws : List Word}

/-! ### A new message at a port that is ready (R121) -/

theorem State.newMessage_noBuffer (hp : s.recv.ports[h.port].completions = []) (hb : s.recv.ports[h.port].posted = []) :
    s.newMessage h ws = .ok (s, .busyNoBuffer) := by
  rw [State.newMessage_ready hp, hb]

theorem State.newMessage_noContext (hp : s.recv.ports[h.port].completions = []) (hb : s.recv.ports[h.port].posted ≠ [])
    (hfull : ∀ i : Fin 12, s.recv.contexts[i] ≠ none) : s.newMessage h ws = .ok (s, .busyNoContext) := by
  obtain ⟨b, rest, hposted⟩ := List.exists_cons_of_ne_nil hb
  rw [State.newMessage_ready hp, hposted, ReceiveUnit.freeEntry_of_full hfull]

theorem State.newMessage_tooLong {b : Buffer} {rest : List Buffer} (hp : s.recv.ports[h.port].completions = [])
    (hb : s.recv.ports[h.port].posted = b :: rest) (hi : s.recv.freeEntry = some i) (hl : b.capacity < h.messageLength) :
    s.newMessage h ws = .ok (s, .refusedLength) := by
  rw [State.newMessage_ready hp, hb, hi]
  exact if_pos hl

/-- A message that fits the port's first buffer is accepted, and its first segment is stored from the buffer's start. -/
theorem State.newMessage_stores {b : Buffer} {rest : List Buffer} (hp : s.recv.ports[h.port].completions = [])
    (hb : s.recv.ports[h.port].posted = b :: rest) (hi : s.recv.freeEntry = some i) (hl : h.messageLength ≤ b.capacity)
    (hin : b.address + ws.length ≤ 16384) :
    s.newMessage h ws = .ok (s.storing i (newContext h b) ws true, .accepted) := by
  rw [State.newMessage_ready hp, hb, hi]
  simp only
  rw [if_neg (Nat.not_lt.mpr hl), State.storeSegment_inside (c := newContext h b) hin]
  rfl

/-- DATA at its block names a message of at least one word (R50). -/
theorem State.reachesBlock.messageLength_pos {words : List Word} (hr : s.reachesBlock words)
    (hk : (s.incoming words).header.kind = some .data) : 0 < (s.incoming words).header.messageLength := by
  obtain ⟨-, -, -, hwellFormed, hgood⟩ := hr
  exact Nat.zero_lt_of_lt (Delivery.segmentOf hk hwellFormed hgood).more

theorem segmentCount_eq_one {n : Nat} (hpos : 0 < n) : 1 = segmentCount n ↔ n ≤ 32 := by
  unfold segmentCount
  omega

theorem newContext_stored32 (h : Header) (b : Buffer) (ws : List Word) :
    (newContext h b).stored32 ws =
      { source := h.source, lane := h.sourceLane, epoch := h.epoch, port := h.port, message := h.message
        length := h.messageLength, next := 1, buffer := b, stored := ws.length, age := 0 } := by
  simp [newContext, Context.stored32]

/-- The first segment of a longer message takes the port's head buffer and opens its context (R121). -/
theorem ReceiveUnit.segmentStored_first (hn : c.next ≠ segmentCount c.length) :
    r.segmentStored i c true = { r with
      ports := r.ports.set c.port { r.ports[c.port] with posted := r.ports[c.port].posted.tail }
      contexts := r.contexts.set i (some c) } :=
  (r.takeHead c.port).afterStore_more i c hn

/-- The only segment of a message takes the port's head buffer and gives the port its completion entry (R119, R121). -/
theorem ReceiveUnit.segmentStored_only_ports (hn : c.next = segmentCount c.length) :
    (r.segmentStored i c true).ports = r.ports.set c.port { r.ports[c.port] with
      posted := r.ports[c.port].posted.tail
      completions := r.ports[c.port].completions ++ [c.completion .complete c.length] } := by
  rw [ReceiveUnit.segmentStored_opens, ReceiveUnit.afterStore_last _ _ _ hn]
  simp [ReceiveUnit.complete, ReceiveUnit.takeHead, ReceiveUnit.updatePort]

/-- The only segment of a message leaves its entry free. -/
theorem ReceiveUnit.segmentStored_only_contexts (hn : c.next = segmentCount c.length) (hi : r.contexts[i] = none) :
    (r.segmentStored i c true).contexts = r.contexts := by
  rw [ReceiveUnit.segmentStored_opens, ReceiveUnit.afterStore_last _ _ _ hn, ← hi]
  exact Vector.set_getElem_self i.isLt

/-! ### DATA that opens a context -/

/-- What a message finds of its key: no open context, or one of another message, which its first segment supersedes
(R118, R120). Either way it is judged as one with no context. -/
theorem State.dataArrival_newKey (ho : s.recv.ports[h.port].isOpen = true)
    (hr : s.recv.keyFree h ∧ r = s.recv ∨ ∃ (i : Fin 12) (c : Context), s.recv.contexts[i] = some c ∧
      s.recv.findKey h.source h.sourceLane = some i ∧ ¬c.sameMessage h = true ∧ h.index = 0 ∧
      r = s.recv.abandon i .superseded) :
    s.dataArrival h ws false = ({ s with recv := r } : State).dataWithoutContext h ws := by
  rcases hr with ⟨hfree, rfl⟩ | ⟨i, c, hc, hf, hm, hn, rfl⟩
  · exact State.dataArrival_noContext ho hfree
  · rw [State.dataArrival_context ho hf hc, State.dataWithContext_superseded hm hn]

/-- Settles O51: what the message finds of its key, then the judgement without a context, in its order. -/
theorem dataOpensAContext : Obligations.DataOpensAContext := by
  intro s f r hr hk h payload b base answer ho hkey again port
  have hopen : b.recv.ports[h.port].isOpen = true := (s.afterHeader_isOpen f.words h.port).trans ho
  have hmem : base.mem = b.mem := rfl
  have harrives : b.dataArrival h payload false = base.dataWithoutContext h payload := by
    refine State.dataArrival_newKey hopen (hkey.imp (fun ⟨hfree, he⟩ => ⟨fun j d hd hk => hfree j d hd hk.1 hk.2, he⟩) ?_)
    rintro ⟨i, c, hc, hs, hl, hu, hm, hn, rfl⟩
    exact ⟨i, c, hc, ReceiveUnit.findKey_of_unique hc hs hl hu, mt Context.sameMessage_iff.mp hm, hn,
      (ReceiveUnit.abandon_some hc _).symm⟩
  have hanswered {code : ReplyCode} (hd : base.dataWithoutContext h payload = .ok (base, code)) :
      exec (.frameDelivery f) s = .next (answer base code).fill :=
    exec_frameDelivery_dataAnswered hr hk (harrives.trans hd) hmem
  have hagain : r.streamMatches h = true ↔ again := ReceiveUnit.streamMatches_iff
  refine ⟨fun hm => ?_, fun hm hn => ?_, fun hm hn => ?_⟩
  · exact hanswered (State.dataWithoutContext_again (hagain.mpr hm))
  · exact hanswered (State.dataWithoutContext_stray (mt hagain.mp hm) hn)
  have hnew : base.dataWithoutContext h payload = base.newMessage h payload :=
    State.dataWithoutContext_new (mt hagain.mp hm) hn
  refine ⟨fun hp => ?_, fun hp hb => ?_, fun hp hb hfull => ?_, fun buf rest i hp hb hi hmin => ?_⟩
  · exact hanswered (hnew.trans (State.newMessage_pending hp))
  · exact hanswered (hnew.trans (State.newMessage_noBuffer hp hb))
  · exact hanswered (hnew.trans (State.newMessage_noContext hp hb hfull))
  have hfree : r.freeEntry = some i := ReceiveUnit.freeEntry_of_lowest hi hmin
  refine ⟨fun hlong => ?_, fun hfits hin => ?_⟩
  · exact hanswered (hnew.trans (State.newMessage_tooLong hp hb hfree hlong))
  intro opened take u
  have hopened : (newContext h buf).stored32 payload = opened := newContext_stored32 h buf payload
  have hstores : base.dataWithoutContext h payload = .ok (base.storing i (newContext h buf) payload true, .accepted) :=
    hnew.trans (State.newMessage_stores hp hb hfree hfits hin)
  have hu : (base.storing i (newContext h buf) payload true).answer h .accepted [] = u := by
    rw [State.storing, hopened]
    rfl
  have hrecv : (base.storedSegment i (newContext h buf) payload true).recv = r.segmentStored i opened true := by
    rw [State.storedSegment_recv, hopened]
  have hhead : port.posted.tail = rest := by rw [hb]; rfl
  have hcount : opened.next = segmentCount opened.length ↔ h.messageLength ≤ 32 :=
    segmentCount_eq_one (hr.messageLength_pos hk)
  refine ⟨base.storedSegment i (newContext h buf) payload true, ?_, ?_, base.storedSegment_frame i _ payload true,
    fun k w hw => State.storedSegment_word hw, fun a ha => State.storedSegment_word_outside ha, fun hmore => ?_,
    fun hlast => ?_⟩
  · rw [exec_frameDelivery_data hr hk (harrives.trans hstores), ← hu]
  · exact hu ▸ State.storing_finishTake (s := base) (s.afterHeader_take f.words)
  · rw [hrecv, ReceiveUnit.segmentStored_first (mt hcount.mp (Nat.not_le.mpr hmore)), ← hhead]
    exact ⟨rfl, rfl, rfl⟩
  · have hn := hcount.mpr hlast
    rw [hrecv]
    refine ⟨?_, ReceiveUnit.segmentStored_only_contexts hn hi, ReceiveUnit.segmentStored_last_stream hn⟩
    rw [ReceiveUnit.segmentStored_only_ports hn, ← hhead]
    exact congrArg (fun l => r.ports.set h.port { port with
      posted := port.posted.tail, completions := l ++ [opened.completion .complete opened.length] }) hp

end Sys2Proof.Machine
end

section
/-! Which operations leave buffer memory as it is, and which may find the take in progress complete (R158, R160, R161). -/

namespace Sys2Proof.Machine

variable {s t : State} {c : Instr} {a : Nat}

/-! ### Operations that leave buffer memory as it is -/

@[simp] theorem State.setFlag_mem (s : State) (f : Fin 32) : (s.setFlag f).mem = s.mem := by
  rw [State.setFlag_frame]

theorem State.setFlagMask_mem (s : State) (mask : BitVec 32) : (s.setFlagMask mask).mem = s.mem := by
  rw [(s.setFlagMask_setsEach mask).frame]

theorem State.clearFlagMask_mem (s : State) (mask : BitVec 32) : (s.clearFlagMask mask).mem = s.mem := by
  rw [State.clearFlagMask_eq]

theorem State.takeWaitRequest_mem (s : State) (i : Fin 8) : (s.takeWaitRequest i).mem = s.mem := by
  unfold State.takeWaitRequest
  simp only
  repeat' split
  all_goals rfl

theorem State.takeFlagRequest_mem (s : State) (i : Fin 8) : (s.takeFlagRequest i).mem = s.mem := by
  unfold State.takeFlagRequest
  simp only
  split
  · split <;> simp
  · rfl

theorem State.waitTimerExpires_mem (s : State) (i : Fin 8) : (s.waitTimerExpires i).mem = s.mem := by
  unfold State.waitTimerExpires
  simp only
  split <;> rfl

theorem State.takeExpiry_mem (s : State) (i : Fin 8) : (s.takeExpiry i).mem = s.mem := by
  unfold State.takeExpiry
  repeat' split
  all_goals rfl

theorem State.takeRemoval_mem (s : State) (i : Fin 8) : (s.takeRemoval i).mem = s.mem := by
  unfold State.takeRemoval
  repeat' split
  all_goals rfl

theorem State.takeSignal_mem (s : State) (f : Fin 32) : (s.takeSignal f).1.mem = s.mem := by
  cases ha : s.flags.accept.getLsbD f.val with
  | true => rw [State.takeSignal_accepted ha, State.signalSet_mem]
  | false => rw [State.takeSignal_masked ha]

theorem State.takeAndFill_mem (s : State) : s.takeAndFill.mem = s.mem := by
  unfold State.takeAndFill
  split
  · obtain ⟨-, -, -, -, hmem, -⟩ := State.take_frame ‹_›
    rw [State.fill_mem, hmem]
  · rfl

theorem State.acknowledge_mem (s : State) : s.acknowledge.mem = s.mem := by
  unfold State.acknowledge
  split
  · rfl
  · rw [State.fill_mem]

theorem State.observedCollision_mem (s : State) : s.observedCollision.mem = s.mem := by
  rw [State.observedCollision_eq]

theorem State.stuckNotice_mem (s : State) : s.stuckNotice.mem = s.mem := by
  rw [State.stuckNotice_eq]

theorem State.ownFrameEnds_mem (s : State) (f : Transmission) : (s.ownFrameEnds f).mem = s.mem := by
  unfold State.ownFrameEnds State.ownCompletion
  simp only
  repeat' split
  all_goals rfl

theorem State.slotStarts_mem (s : State) : s.slotStarts.mem = s.mem := by
  have hbegin (u : State) (o : Owner) : (u.beginFrame o).mem = u.mem := by cases o <;> rfl
  unfold State.slotStarts State.turn
  simp only
  repeat' split
  · rfl
  · rw [hbegin]
  · rfl
  · rfl

theorem State.silenceExpires_mem (s : State) : s.silenceExpires.mem = s.mem := by
  unfold State.silenceExpires
  repeat' split
  all_goals rfl

theorem State.beaconExpires_mem (s : State) : s.beaconExpires.mem = s.mem := by
  unfold State.beaconExpires
  repeat' split
  all_goals rfl

theorem State.doJoin_mem (s : State) : s.doJoin.1.mem = s.mem := by
  unfold State.doJoin
  repeat' split
  all_goals rfl

theorem State.doStartLane_mem (s : State) : s.doStartLane.1.mem = s.mem := by
  unfold State.doStartLane
  simp only
  repeat' split
  all_goals rfl

theorem State.doStopLane_mem (s : State) : s.doStopLane.1.mem = s.mem := by
  unfold State.doStopLane
  repeat' split
  all_goals rfl

/-! ### Operations that may find the take in progress complete (log 27) -/

/-- Buffer memory of `t` is that of `s`, as it was or with its take in progress complete. -/
def State.SettlesMemory (s t : State) : Prop := t.mem = s.mem ∨ t.mem = s.mem.served

theorem State.settleTake_served (s : State) : s.settleTake.mem = s.mem.served := s.settleTake_mem

theorem BufferMemory.served_none {m : BufferMemory} (h : m.take = none) : m.served = m := by
  rw [BufferMemory.served, h]

theorem State.SettlesMemory.of_mem_eq {u : State} (h : u.SettlesMemory t) (hm : u.mem = s.mem) : s.SettlesMemory t := by
  unfold State.SettlesMemory at h
  rwa [hm] at h

/-- A complete take is not completed again. -/
theorem State.SettlesMemory.trans {u : State} (h : s.SettlesMemory u) (k : u.SettlesMemory t) : s.SettlesMemory t := by
  rcases h with h | h
  · exact k.of_mem_eq h
  · have hserved : u.mem.served = s.mem.served := by rw [h]; exact BufferMemory.served_none s.finishTake_take
    exact .inr (k.elim (fun hm => hm.trans h) fun hm => hm.trans hserved)

theorem State.drainTest_settles (s : State) : s.SettlesMemory s.drainTest := by
  rcases s.drainTest_cases with ⟨h, -⟩ | ⟨h, -⟩ <;> rw [h]
  · exact .inl rfl
  · exact .inr s.settleTake_served

theorem State.closeExchange_settles (s : State) : s.SettlesMemory s.closeExchange := by
  unfold State.closeExchange
  split
  · exact .inl rfl
  · refine (State.drainTest_settles _).of_mem_eq ?_
    split <;> rfl

theorem State.collide_settles (s : State) (f : Transmission) : s.SettlesMemory (s.collide f) := by
  have hown (u : State) : u.SettlesMemory u.ownCollision := by
    unfold State.ownCollision
    simp only
    split
    · exact .inr (State.settleTake_served _)
    · exact .inl rfl
  unfold State.collide State.SettlesMemory
  simp only
  split <;> rw [State.observedCollision_mem]
  · exact .inl rfl
  · split
    · exact hown _
    · exact .inl rfl

theorem State.headerFails_settles (s : State) (k : FrameClass) : s.SettlesMemory (s.headerFails k) := by
  unfold State.headerFails
  generalize (if k = .contention then s.ctl.loseSync .header else s.ctl) = x
  simp only
  repeat' split
  · exact .inr (State.settleTake_served _)
  · exact .inl rfl
  · exact .inl rfl

theorem State.contextExpires_settles (s : State) (i : Fin 12) : s.SettlesMemory (s.contextExpires i) := by
  unfold State.contextExpires
  simp only
  split
  · exact .inr s.settleTake_served
  · exact .inl rfl

theorem State.presenceExpires_settles (s : State) (p : Fin 32) : s.SettlesMemory (s.presenceExpires p) := by
  unfold State.presenceExpires
  simp only
  split
  · exact .inr s.settleTake_served
  · exact .inl rfl

theorem State.doLeave_settles (s : State) : s.SettlesMemory s.doLeave.1 := by
  unfold State.doLeave
  split
  · exact .inl rfl
  · refine State.SettlesMemory.trans ?_ (State.drainTest_settles _)
    unfold State.SettlesMemory
    split
    · exact .inr s.settleTake_served
    · exact .inl rfl
  · exact .inr s.settleTake_served
  · exact .inr s.settleTake_served

theorem State.doOpenPort_settles (s : State) : s.SettlesMemory s.doOpenPort.1 := by
  unfold State.doOpenPort
  split
  · exact .inl rfl
  · exact .inr s.settleTake_served

theorem State.doClosePort_settles (s : State) : s.SettlesMemory s.doClosePort.1 := by
  unfold State.doClosePort
  split
  · exact .inl rfl
  · exact .inr s.settleTake_served

theorem State.doPostReceive_settles (s : State) : s.SettlesMemory s.doPostReceive.1 := by
  unfold State.doPostReceive
  simp only
  repeat' split
  · exact .inl rfl
  · exact .inl rfl
  · exact .inl rfl
  · exact .inr s.settleTake_served

theorem State.doLoadWindow_settles (s : State) : s.SettlesMemory s.doLoadWindow.1 := by
  unfold State.doLoadWindow
  simp only
  repeat' split
  · exact .inl rfl
  · exact .inl rfl
  · exact .inr s.settleTake_served

theorem State.doClearWindow_settles (s : State) : s.SettlesMemory s.doClearWindow.1 := by
  unfold State.doClearWindow
  split
  · exact .inl rfl
  · exact .inr s.settleTake_served

/-! ### Every command that neither serves a claim nor ends a frame -/

theorem event_mem {f : State → State} (h : event s f = .next t) (hf : (f s).mem = s.mem) : t.mem = s.mem := by
  rcases event_next h with ⟨-, rfl⟩ | ⟨-, rfl⟩
  · rfl
  · exact hf

theorem event_settles {f : State → State} (h : event s f = .next t) (hf : s.SettlesMemory (f s)) : s.SettlesMemory t := by
  rcases event_next h with ⟨-, rfl⟩ | ⟨-, rfl⟩
  · exact .inl rfl
  · exact hf

theorem State.SettlesMemory.fill (h : s.SettlesMemory t) : s.SettlesMemory t.fill := by
  rwa [State.SettlesMemory, State.fill_mem]

theorem takeCommand_mem {named : BitVec 8 → Bool} {f : State → State × CommandResult}
    (h : takeCommand s named f = .next t) (hf : (f s).1.mem = s.mem) : t.mem = s.mem := by
  rcases takeCommand_next h with rfl | ⟨-, -, -, rfl⟩
  · rfl
  · rw [State.fill_mem]
    exact hf

theorem takeCommand_settles {named : BitVec 8 → Bool} {f : State → State × CommandResult}
    (h : takeCommand s named f = .next t) (hf : s.SettlesMemory (f s).1) : s.SettlesMemory t := by
  rcases takeCommand_next h with rfl | ⟨-, -, -, rfl⟩
  · exact .inl rfl
  · exact State.SettlesMemory.fill hf

/-- Beside resets, claims and frame ends, buffer memory changes only by the completion of the take in progress, and only
where the command may find it complete (log 27). -/
theorem exec_mem (h : exec c s = .next t) (hr : c.isReset = false) (hf : ∀ f, c ≠ .frameDelivery f)
    (hl : c ≠ .laneWordAccess) (hb : beginsAccess c = none) :
    t.mem = s.mem ∨ c.completesTake = true ∧ t.mem = s.mem.served := by
  have completes (hs : s.SettlesMemory t) (hc : c.completesTake = true) :
      t.mem = s.mem ∨ c.completesTake = true ∧ t.mem = s.mem.served := hs.imp_right fun hm => ⟨hc, hm⟩
  unfold exec at h
  cases c with
  | powerOnReset | pinReset | resetRelease => cases hr
  | frameDelivery f => exact absurd rfl (hf f)
  | laneWordAccess => exact absurd rfl hl
  | writeInterruptEnables | writeCauses | eventAcknowledge | commandWordWrite | timeBaseLowRead | controlPageWrite =>
    cases hb
  | hostMemoryWrite a strobe =>
    cases strobe with
    | write | read => cases hb
    | readEnds => exact .inl (event_mem h rfl)
  | lineDisturbance =>
    refine .inl (event_mem h ?_)
    split
    · rw [State.fill_mem, State.observedCollision_mem]
    · rfl
  | readBackMismatch =>
    refine completes (event_settles h ?_) rfl
    repeat' split
    · exact (s.collide_settles _).fill
    · exact .inl rfl
    · exact .inl rfl
  | stuckCondition =>
    refine .inl (event_mem h ?_)
    split
    · rw [State.fill_mem, State.stuckNotice_mem]
    · rfl
  | lineIdle => exact .inl (event_mem h rfl)
  | jamEnd | stuckConditionEnd | firstActiveHalfBit | holdTimerExpiry =>
    refine .inl (event_mem h ?_)
    split <;> rfl
  | replyStart =>
    refine .inl (event_mem h ?_)
    repeat' split
    all_goals rfl
  | exchangeEnd =>
    refine completes (event_settles h ?_) rfl
    split
    · exact ((State.closeExchange_settles _).of_mem_eq rfl).fill
    · exact .inl rfl
  | drainComplete => exact completes (event_settles h s.drainTest_settles.fill) rfl
  | slotStart =>
    refine .inl (event_mem h ?_)
    split
    · exact s.slotStarts_mem
    · rfl
  | ownFrameCompletion =>
    refine .inl (event_mem h ?_)
    repeat' split
    · exact s.ownFrameEnds_mem _
    · rfl
    · rfl
  | silenceTimerExpiry => exact .inl (event_mem h (by rw [State.fill_mem, State.silenceExpires_mem]))
  | beaconTimerExpiry => exact .inl (event_mem h s.beaconExpires_mem)
  | waitTimerExpiry i => exact .inl (event_mem h (s.waitTimerExpires_mem i))
  | waitExpiryTake i => exact .inl (event_mem h (s.takeExpiry_mem i))
  | waitRequestTake i => exact .inl (event_mem h (s.takeWaitRequest_mem i))
  | flagRequestTake i => exact .inl (event_mem h (s.takeFlagRequest_mem i))
  | waitRemovalTake i => exact .inl (event_mem h (s.takeRemoval_mem i))
  | contextTimerExpiry i => exact completes (event_settles h (s.contextExpires_settles i).fill) rfl
  | presenceTimerExpiry p => exact completes (event_settles h (s.presenceExpires_settles p).fill) rfl
  | queueTake => exact .inl (event_mem h s.takeAndFill_mem)
  | join => exact .inl (takeCommand_mem h s.doJoin_mem)
  | leave => exact completes (takeCommand_settles h s.doLeave_settles) rfl
  | startLane => exact .inl (takeCommand_mem h s.doStartLane_mem)
  | stopLane => exact .inl (takeCommand_mem h s.doStopLane_mem)
  | openPort => exact completes (takeCommand_settles h s.doOpenPort_settles) rfl
  | closePort => exact completes (takeCommand_settles h s.doClosePort_settles) rfl
  | postReceive => exact completes (takeCommand_settles h s.doPostReceive_settles) rfl
  | loadWindow => exact completes (takeCommand_settles h s.doLoadWindow_settles) rfl
  | clearWindow => exact completes (takeCommand_settles h s.doClearWindow_settles) rfl
  | setFlags => exact .inl (takeCommand_mem h (s.setFlagMask_mem _))
  | clearFlags => exact .inl (takeCommand_mem h (s.clearFlagMask_mem _))
  | setSignalMasks | unknownCommand => exact .inl (takeCommand_mem h rfl)

end Sys2Proof.Machine
end

section
/-! The words of buffer memory that the claims of the three classes change: a take's, the host's and a lane's (R158 to
R161). -/

namespace Sys2Proof.Machine

variable {s t : State} {c : Instr} {a : Nat} {i : Fin 8}

/-! ### The words of a line-side take (R161) -/

theorem readCell_writeCell_ne {cells : List (Nat × Word)} {b : Nat} {w : Word}
    (hne : readCell (writeCell b w cells) a ≠ readCell cells a) : a = b := by
  rw [readCell_writeCell] at hne
  by_contra hab
  exact hne (if_neg hab)

/-- The completion of a take changes only the words it has still to store. -/
theorem State.takeStores_of_served (hne : readCell s.mem.served.cells a ≠ s.word a) : s.takeStores a := by
  unfold BufferMemory.served at hne
  split at hne
  · exact absurd rfl hne
  rename_i k hk
  split at hne
  · rename_i rest done hw
    refine ⟨k, rest, done, hk, hw, ?_⟩
    rw [readCell_writeCells] at hne
    by_contra hout
    exact hne (if_neg hout)
  · exact absurd rfl hne

/-- One word access of a take changes only the word at its address, which it stores. -/
theorem State.lineAccess_word (hne : s.lineAccess.word a ≠ s.word a) :
    ∃ k, s.mem.take = some k ∧ k.address = a ∧ s.takeStores a := by
  have hgoes (v : State) (b : Nat) (work : LineWork) : (v.takeGoesOn b work).word a = v.word a := by
    unfold State.takeGoesOn
    split <;> rfl
  unfold State.lineAccess at hne
  split at hne
  · exact absurd rfl hne
  rename_i k hk
  split at hne <;> rename_i hw <;> rw [hgoes] at hne
  · rename_i w rest done
    have ha : a = k.address := readCell_writeCell_ne hne
    exact ⟨k, hk, ha.symm, k, w :: rest, done, hk, hw, ha ▸ le_rfl, by rw [List.length_cons]; omega⟩
  all_goals exact absurd rfl hne

/-- What the take has still to store after a word access it had to store before. -/
theorem State.takeStores_of_lineAccess (hs : s.lineAccess.takeStores a) : s.takeStores a := by
  have hgoes {v : State} {b : Nat} {work : LineWork} (hv : (v.takeGoesOn b work).takeStores a) :
      ∃ rest done, work = .store rest done ∧ b ≤ a ∧ a < b + rest.length := by
    obtain ⟨k, rest, done, hk, hw, hrange⟩ := hv
    unfold State.takeGoesOn at hk
    split at hk
    · cases hk
    · cases hk
      exact ⟨rest, done, hw, hrange⟩
  unfold State.lineAccess at hs
  split at hs
  · exact hs
  rename_i k hk
  split at hs <;> rename_i hw <;> obtain ⟨rest', done', he, hlow, hhigh⟩ := hgoes hs <;> cases he
  · exact ⟨k, _, _, hk, hw, by omega, by rw [List.length_cons]; omega⟩
  · exact ⟨k, _, _, hk, hw, hlow, hhigh⟩

/-- However many accesses are served, only words that the take stores change. -/
theorem State.servesTake_word {pause : Option Nat} (hne : (s.servesTake pause).word a ≠ s.word a) : s.takeStores a := by
  have haccesses (n : Nat) (s : State) : (State.lineAccesses n s).word a ≠ s.word a → s.takeStores a := by
    induction n generalizing s with
    | zero => exact fun hne => absurd rfl hne
    | succ n ih =>
      intro hne
      by_cases hfirst : s.lineAccess.word a = s.word a
      · exact State.takeStores_of_lineAccess (ih s.lineAccess (hfirst ▸ hne))
      · obtain ⟨-, -, -, hstores⟩ := State.lineAccess_word hfirst
        exact hstores
  cases pause with
  | none => exact State.takeStores_of_served hne
  | some n => exact haccesses n s hne

/-! ### Host accesses (R158, R159) -/

theorem State.hostWrite_word {b : BitVec 15} {v : Word} (hne : (s.hostWrite b v).word a ≠ s.word a) :
    b.toNat = a ∧ a < 16384 := by
  have hpage (page : BitVec 5) : (s.pageWrite page v).mem = s.mem := by
    unfold State.pageWrite
    split
    · rfl
    · rfl
    · exact s.acknowledge_mem
    all_goals rfl
  unfold State.hostWrite at hne
  split at hne
  · have ha : a = b.toNat := readCell_writeCell_ne hne
    exact ⟨ha.symm, ha ▸ ‹_›⟩
  · split at hne
    · rw [State.word, hpage] at hne
      exact absurd rfl hne
    · exact absurd rfl hne

/-- The service of a host claim changes only the word that a write names. -/
theorem State.serveHost_word {k : HostClaim} (hne : (s.serveHost k).word a ≠ s.word a) :
    ∃ b v, k = .write b v ∧ b.toNat = a ∧ a < 16384 := by
  cases k with
  | write b v => exact ⟨b, v, rfl, State.hostWrite_word hne⟩
  | read b driven => exact absurd rfl hne

theorem State.hostAccess_word {k : HostClaim} (hne : (s.hostAccess k).word a ≠ s.word a) :
    ∃ b v, k = .write b v ∧ b.toNat = a ∧ a < 16384 := by
  unfold State.hostAccess at hne
  simp only at hne
  split at hne
  · exact State.serveHost_word (s := s.strobeEnds) hne
  · exact absurd rfl hne

/-- A command that begins a host access is that access, as an event. -/
theorem exec_beginsAccess {k : HostClaim} (hk : beginsAccess c = some k) : exec c s = event s fun s => s.hostAccess k := by
  cases c with
  | hostMemoryWrite b strobe =>
    cases strobe with
    | readEnds => cases hk
    | write | read => cases hk; rfl
  | writeInterruptEnables | writeCauses | eventAcknowledge | commandWordWrite | timeBaseLowRead | controlPageWrite =>
    cases hk; rfl
  | _ => cases hk

/-- Only a write by the host's own address names a word of buffer memory (Table 11.1). -/
theorem beginsAccess_memory {b : BitVec 15} {v : Word} (hk : beginsAccess c = some (.write b v)) (hb : b.toNat < 16384) :
    c = .hostMemoryWrite b (.write v) := by
  have hpage {page : BitVec 5} : ¬(controlAddress page).toNat < 16384 := by
    rw [controlAddress_toNat]
    omega
  cases c with
  | hostMemoryWrite b' strobe =>
    cases strobe with
    | readEnds | read => cases hk
    | write => cases hk; rfl
  | writeInterruptEnables | writeCauses | eventAcknowledge | commandWordWrite | controlPageWrite =>
    cases hk
    exact absurd hb hpage
  | _ => cases hk

/-! ### The claims of the lanes (R77, R84, R90, R160) -/

theorem State.laneReads_mem {b : Nat} {g : Word → Lane → Lane} (ht : s.laneReads i b g = .ok t) : t.mem = s.mem := by
  unfold State.laneReads at ht
  split at ht
  · cases ht
  · cases ht
    rfl

theorem State.laneStores_word {b : Nat} {w : Word} {g : Lane → Lane} (ht : s.laneStores i b w g = .ok t) :
    t.mem.take = s.mem.take ∧ (t.word a ≠ s.word a → b = a) := by
  unfold State.laneStores at ht
  split at ht
  · cases ht
  · rename_i u hu
    cases ht
    obtain ⟨-, rfl⟩ := State.writeWord_ok hu
    exact ⟨rfl, fun hne => (readCell_writeCell_ne hne).symm⟩

/-- The word access of a lane changes only the word it stores to, and the words of a take that the drain test completes. -/
theorem State.laneAccess_word (ht : s.laneAccess i = .ok t) (hne : t.word a ≠ s.word a) :
    s.laneStoreAddress i = some a ∨ s.takeStores a := by
  unfold State.laneAccess at ht
  simp only at ht
  unfold State.laneStoreAddress
  split at ht <;> rename_i hj <;> rw [hj]
  · exact absurd (by rw [State.word, State.laneReads_mem ht]; rfl) hne
  · exact .inl (congrArg some ((State.laneStores_word ht).2 hne))
  · exact absurd (by rw [State.word, State.laneReads_mem ht]; rfl) hne
  · exact .inl (congrArg some ((State.laneStores_word ht).2 hne))
  · cases ht
    exact absurd rfl hne
  · exact .inl (congrArg some ((State.laneStores_word ht).2 hne))
  · split at ht
    · cases ht
    · rename_i u hu
      cases ht
      obtain ⟨htake, hword⟩ := State.laneStores_word (a := a) hu
      by_cases hstored : u.word a = s.word a
      · rcases u.drainTest_settles with hm | hm
        · exact absurd (by rw [State.word, hm]; exact hstored) hne
        · have hserved : readCell u.mem.served.cells a ≠ u.word a := by
            rw [hstored, ← hm]
            exact hne
          obtain ⟨k, rest, done, hk, hrest⟩ := State.takeStores_of_served hserved
          exact .inr ⟨k, rest, done, htake ▸ hk, hrest⟩
      · exact .inl (congrArg some (hword hstored))
  all_goals
    cases ht
    exact absurd rfl hne

/-- What LANE_WORD_ACCESS may change: the word of the claim served, or what the drain test completes (R160). -/
theorem exec_laneWordAccess_word (ht : exec .laneWordAccess s = .next t) (hne : t.word a ≠ s.word a) :
    (∃ k, s.mem.take = some k ∧ k.claimed = true ∧ k.address = a ∧ s.takeStores a) ∨
      (s.mem.lineClaims = false ∧ ∃ b v rest, s.host.claims = .write b v :: rest ∧ b.toNat = a ∧ a < 16384) ∨
      (∃ i, s.nextClaim = some i ∧ s.laneStoreAddress i = some a) ∨ s.takeStores a := by
  rcases eventWithAccess_next ht with ⟨-, rfl⟩ | ⟨-, hserved⟩
  · exact absurd rfl hne
  unfold State.serveClaim at hserved
  split at hserved
  · rename_i hclaims
    cases hserved
    rw [State.fill_word] at hne
    obtain ⟨k, hk, ha, hstores⟩ := State.lineAccess_word hne
    rw [BufferMemory.lineClaims, hk] at hclaims
    exact .inl ⟨k, hk, hclaims, ha, hstores⟩
  · rename_i hclaims
    have hclear : s.mem.lineClaims = false := Bool.eq_false_iff.mpr hclaims
    split at hserved
    · rename_i k rest hk
      cases hserved
      obtain ⟨b, v, rfl, hb⟩ := State.serveHost_word (s := { s with host := { s.host with claims := rest } }) hne
      exact .inr (.inl ⟨hclear, b, v, rest, hk, hb⟩)
    · unfold State.serveLane at hserved
      split at hserved
      · cases hserved
        exact absurd rfl hne
      · rename_i i hi
        split at hserved
        · cases hserved
        · rename_i u hu
          cases hserved
          rw [State.fill_word] at hne
          exact .inr (.inr ((State.laneAccess_word hu hne).imp_left fun hstore => ⟨i, hi, hstore⟩))

end Sys2Proof.Machine
end

section
/-! A frame from the line changes only words of a buffer of an open port or of the window entry it names (R119, R133,
R134), and so every word of buffer memory has its owners. -/

namespace Sys2Proof.Machine

variable {s t u : State} {r v : ReceiveUnit} {c : Instr} {x : Context} {i : Fin 12} {a : Nat} {d : Delivery} {h : Header}
  {ws : List Word} {f : FrameEnd} {code : ReplyCode} {P : Nat → Prop}

/-! ### Takes that begin -/

/-- From `s` to `t` a take begins at most, which stores to addresses that satisfy `P` only; no word has changed yet. -/
structure State.Begins (s t : State) (P : Nat → Prop) : Prop where
  cells : t.mem.cells = s.mem.cells
  stores : ∀ a, t.takeStores a → P a

theorem State.Begins.of_mem (hm : t.mem = s.mem) (ht : s.mem.take = none) : s.Begins t P where
  cells := by rw [hm]
  stores := by
    rintro a ⟨k, -, -, hk, -⟩
    rw [hm, ht] at hk
    cases hk

theorem State.Begins.of_store {b : Nat} {done : StoreEnd} (hb : s.beginTake b (.store ws done) = .ok t)
    (hP : ∀ a, b ≤ a → a < b + ws.length → P a) : s.Begins t P := by
  obtain ⟨-, rfl⟩ := State.beginTake_ok hb
  refine ⟨rfl, ?_⟩
  rintro a ⟨k, rest, done', hk, hw, hlow, hhigh⟩
  cases hk
  cases hw
  exact hP a hlow hhigh

theorem State.Begins.of_fetch {b n : Nat} {got : List Word} (hb : s.beginTake b (.fetch n got) = .ok t) :
    s.Begins t P := by
  obtain ⟨-, rfl⟩ := State.beginTake_ok hb
  refine ⟨rfl, ?_⟩
  rintro a ⟨k, rest, done, hk, hw, -⟩
  cases hk
  cases hw

theorem State.Begins.of_answered {y : Except Fault (State × ReplyCode)} (hy : State.answered y h = .ok t)
    (hb : ∀ u code, y = .ok (u, code) → s.Begins u P) : s.Begins t P := by
  cases y with
  | error e => cases hy
  | ok z =>
    cases hy
    obtain ⟨hcells, hstores⟩ := hb z.1 z.2 rfl
    exact ⟨hcells, hstores⟩

/-! ### Words of a buffer of an open port (R119, R121) -/

/-- The word at `a` lies in a buffer of an open port: a posted one, or that of an open context (R109). -/
def ReceiveUnit.ownsWord (r : ReceiveUnit) (a : Nat) : Prop :=
  ∃ (p : Fin 16) (b : Buffer), r.ports[p].isOpen = true ∧
    (b ∈ r.ports[p].posted ∨ ∃ (i : Fin 12) (x : Context), r.contexts[i] = some x ∧ x.port = p ∧ x.buffer = b) ∧
    b.address ≤ a ∧ a < b.address + b.capacity

/-- The awaited segment of an open context at an open port is stored in the context's buffer (R119). -/
theorem ReceiveUnit.ownsWord_of_context (ho : r.ports[x.port].isOpen = true) (hx : r.contexts[i] = some x)
    (hw : x.Awaits ws.length) (hlow : x.buffer.address + 32 * x.next ≤ a)
    (hhigh : a < x.buffer.address + 32 * x.next + ws.length) : r.ownsWord a := by
  obtain ⟨-, hmore, hfits, -, hsize⟩ := hw
  obtain ⟨-, hend⟩ := segmentSize_inside hmore
  exact ⟨x.port, x.buffer, ho, .inr ⟨i, x, hx, rfl, rfl⟩, by omega, by omega⟩

/-- The first segment of a new message at an open port is stored in the port's first buffer (R121). -/
theorem State.newMessage_begins (hm : s.newMessage h ws = .ok (t, code)) (ht : s.mem.take = none)
    (ho : r.ports[h.port].isOpen = true) (hp : s.recv.ports[h.port].posted = r.ports[h.port].posted)
    (hs : h.SegmentOf ws.length) (h0 : h.index = 0) : s.Begins t r.ownsWord := by
  unfold State.newMessage at hm
  simp only at hm
  split at hm
  · cases hm; exact .of_mem rfl ht
  split at hm
  · cases hm; exact .of_mem rfl ht
  rename_i b rest hposted
  split at hm
  · cases hm; exact .of_mem rfl ht
  split at hm
  · cases hm; exact .of_mem rfl ht
  rename_i hfits
  split at hm
  · cases hm
  rename_i hstore
  cases hm
  refine .of_store hstore fun a hlow hhigh => ?_
  have hlow : b.address ≤ a := hlow
  have hhigh : a < b.address + ws.length := hhigh
  obtain ⟨hmore, hsize⟩ := hs
  obtain ⟨-, hend⟩ := segmentSize_inside hmore
  have hmem : b ∈ r.ports[h.port].posted := by
    rw [← hp, hposted]
    exact List.mem_cons_self
  exact ⟨h.port, b, ho, .inl hmem, hlow, by omega⟩

theorem State.dataWithoutContext_begins (hm : s.dataWithoutContext h ws = .ok (t, code)) (ht : s.mem.take = none)
    (ho : r.ports[h.port].isOpen = true) (hp : s.recv.ports[h.port].posted = r.ports[h.port].posted)
    (hs : h.SegmentOf ws.length) : s.Begins t r.ownsWord := by
  unfold State.dataWithoutContext at hm
  split at hm
  · cases hm; exact .of_mem rfl ht
  split at hm
  · cases hm; exact .of_mem rfl ht
  · exact State.newMessage_begins hm ht ho hp hs (by omega)

/-- An abandonment leaves the posted buffers of every port (R115). -/
theorem ReceiveUnit.abandon_posted (r : ReceiveUnit) (i : Fin 12) (st : ReceiveStatus) (q : Fin 16) :
    (r.abandon i st).ports[q].posted = r.ports[q].posted := by
  obtain ⟨-, -, hports, -⟩ := r.abandon_spec i st
  rw [hports q]
  split
  · split <;> rfl
  · rfl

theorem State.dataWithContext_begins (hm : s.dataWithContext i x h ws = .ok (t, code)) (ht : s.mem.take = none)
    (ho : s.recv.ports[h.port].isOpen = true) (hx : s.recv.contexts[i] = some x)
    (hs : h.SegmentOf ws.length) : s.Begins t fun a => s.recv.consistent → s.recv.ownsWord a := by
  unfold State.dataWithContext at hm
  split at hm
  · rename_i hsame
    split at hm
    · cases hm; exact .of_mem rfl ht
    split at hm
    · rename_i hn
      split at hm
      · cases hm
      rename_i hstore
      cases hm
      obtain ⟨-, hport, -⟩ := Context.sameMessage_iff.mp hsame
      have hopen : s.recv.ports[x.port].isOpen = true := by simpa only [hport] using ho
      refine .of_store hstore fun a hlow hhigh hr => ?_
      exact ReceiveUnit.ownsWord_of_context hopen hx (Context.awaits_of_consistent (hr.contexts i x hx) hsame hn hs) hlow
        hhigh
    · cases hm; exact .of_mem rfl ht
  split at hm
  · obtain ⟨hcells, hstores⟩ := State.dataWithoutContext_begins hm ht ho (s.recv.abandon_posted i .superseded h.port) hs
    exact ⟨hcells, fun a ha _ => hstores a ha⟩
  · cases hm; exact .of_mem rfl ht

theorem State.dataArrival_begins {fault : Bool} (hm : s.dataArrival h ws fault = .ok (t, code)) (ht : s.mem.take = none)
    (hs : fault = false → h.SegmentOf ws.length) : s.Begins t fun a => s.recv.consistent → s.recv.ownsWord a := by
  unfold State.dataArrival at hm
  split at hm
  · cases hm; exact .of_mem rfl ht
  have hsegment := hs (Bool.eq_false_iff.mpr ‹_›)
  split at hm
  · cases hm; exact .of_mem rfl ht
  have hopen : s.recv.ports[h.port].isOpen = true := by
    cases ho : s.recv.ports[h.port].isOpen with
    | true => rfl
    | false => exact absurd (by rw [ho]; rfl) ‹¬(!s.recv.ports[h.port].isOpen) = true›
  have hnew (hm : s.dataWithoutContext h ws = .ok (t, code)) :
      s.Begins t fun a => s.recv.consistent → s.recv.ownsWord a := by
    obtain ⟨hcells, hstores⟩ := State.dataWithoutContext_begins hm ht hopen rfl hsegment
    exact ⟨hcells, fun a ha _ => hstores a ha⟩
  split at hm
  · split at hm
    · exact State.dataWithContext_begins hm ht hopen ‹_› hsegment
    · exact hnew hm
  · exact hnew hm

/-! ### Words of a window entry (R133, R134) -/

/-- The word at `a` lies in the enabled window entry that the frame names, which lets its source write (R133). -/
def Window.ownsWord (w : Window) (h : Header) (a : Nat) : Prop :=
  w.enabled = true ∧ w.writeAllowed = true ∧ w.peers.getLsbD h.source.val = true ∧ w.base + h.offset ≤ a ∧
    a < w.base + w.length

/-- An accepted request is let in by its window (R133, Table 8.2). -/
theorem Window.judge_accepted {w : Window} {allowed : Bool} (hj : w.judge h allowed = none) :
    w.enabled = true ∧ allowed = true ∧ w.peers.getLsbD h.source.val = true := by
  unfold Window.judge at hj
  repeat' split at hj
  · cases hj
  · cases hj
  · cases hj
  · rename_i henabled _ hdenied
    simp only [Bool.not_eq_true', Bool.or_eq_true, not_or, Bool.not_eq_false] at henabled hdenied
    exact ⟨henabled, hdenied.2, hdenied.1⟩

theorem State.windowWrite_begins {fault : Bool} (hm : s.windowWrite h ws fault = .ok (t, code)) (ht : s.mem.take = none)
    (hs : fault = false → ws.length = h.wordCount) : s.Begins t (s.windows[h.window].ownsWord h) := by
  unfold State.windowWrite at hm
  simp only at hm
  split at hm
  · cases hm; exact .of_mem rfl ht
  have hlength := hs (Bool.eq_false_iff.mpr ‹_›)
  split at hm
  · cases hm; exact .of_mem rfl ht
  rename_i hj
  split at hm
  · cases hm
  rename_i hstore
  cases hm
  obtain ⟨henabled, hallowed, hpeer⟩ := Window.judge_accepted hj
  have hend := Window.inside_of_judge hj
  exact .of_store hstore fun a hlow hhigh => ⟨henabled, hallowed, hpeer, hlow, by omega⟩

theorem State.windowRead_begins (hm : s.windowRead h = .ok (t, code)) (ht : s.mem.take = none) : s.Begins t P := by
  unfold State.windowRead at hm
  simp only at hm
  split at hm
  · cases hm; exact .of_mem rfl ht
  split at hm
  · cases hm
  rename_i hfetch
  cases hm
  exact .of_fetch hfetch

/-! ### The judgement of a delivery (R52) -/

/-- The words that a frame from the line may change: those of the window entry that a WRITE names, and those of the
buffers of open ports for a DATA. -/
def State.frameOwns (s : State) (h : Header) (a : Nat) : Prop :=
  h.kind = some .write ∧ s.windows[h.window].ownsWord h a ∨
    h.kind = some .data ∧ (s.recv.consistent → s.recv.ownsWord a)

theorem State.handOn_begins {n : Nat} (hm : s.handOn d = .ok t) (ht : s.mem.take = none)
    (hw : d.header.malformed n = false) : s.Begins t (s.frameOwns d.header) := by
  unfold State.handOn at hm
  simp only at hm
  split at hm <;> rename_i hk
  · refine .of_answered hm fun u code hu => ?_
    obtain ⟨hcells, hstores⟩ := State.dataArrival_begins hu ht fun hf => Delivery.segmentOf hk hw hf
    exact ⟨hcells, fun a ha => .inr ⟨hk, hstores a ha⟩⟩
  · refine .of_answered hm fun u code hu => ?_
    obtain ⟨hcells, hstores⟩ := State.windowWrite_begins hu ht fun hf => by
      rw [Delivery.length_of_sound hf, Header.expectedCount, hk]
    exact ⟨hcells, fun a ha => .inl ⟨hk, hstores a ha⟩⟩
  · split at hm <;> cases hm <;> exact .of_mem rfl ht
  · split at hm
    · cases hm; exact .of_mem rfl ht
    · exact .of_answered hm fun u code hu => State.windowRead_begins hu ht
  · repeat' split at hm
    · cases hm; exact .of_mem rfl ht
    · cases hm; exact .of_mem rfl ht
    · cases hm
      refine .of_mem ?_ ht
      unfold State.signalArrival
      simp only
      split
      · exact s.takeSignal_mem _
      · exact s.takeSignal_mem _
  all_goals
    cases hm
    exact .of_mem rfl ht

theorem State.judge_begins (hm : s.judge d = .ok t) (ht : s.mem.take = none) : s.Begins t (s.frameOwns d.header) := by
  unfold State.judge at hm
  repeat' split at hm
  · cases hm; exact .of_mem rfl ht
  · cases hm; exact .of_mem rfl ht
  · cases hm; exact .of_mem rfl ht
  · cases hm; exact .of_mem rfl ht
  · exact State.handOn_begins hm ht (Bool.eq_false_iff.mpr ‹_›)

/-! ### From the frame end to the judgement -/

/-- Everything a frame end can do: without a frame being taken in nothing; otherwise the delivery is handed on, and the take
that it begins is served (R18, R161). -/
theorem State.frameDelivered_ok (hf : s.frameDelivered f = .ok t) :
    t = s ∨ s.line.takingIn = true ∧ ∃ u, s.atFrameEnd.deliver (s.incoming f.words) = .ok u ∧
      t = (u.servesTake f.pause).fill := by
  have hend : ({ s.settleTake with
      line := s.settleTake.line.frameEnds, ctl := s.settleTake.ctl.activity } : State) = s.atFrameEnd := by
    simp only [State.atFrameEnd, State.settleTake_line, State.finishTake_frameEnds]
  have hclass : s.settleTake.line.rxClass = s.line.rxClass := by rw [State.settleTake_line, State.finishTake_line]
  unfold State.frameDelivered at hf
  simp only [hend] at hf
  rw [hclass, State.settleTake_time] at hf
  split at hf
  · split at hf
    · cases hf
    · rename_i u hu
      cases hf
      exact .inr ⟨‹_›, u, hu, rfl⟩
  · cases hf
    exact .inl rfl

/-- Everything a delivery can do (R18, R22, R52): off the line, or with a header check failure, buffer memory stays with no
take in progress; a valid header on the line is judged. -/
theorem State.deliver_ok (hd : s.atFrameEnd.deliver (s.incoming f.words) = .ok u) :
    u.mem = s.mem.served ∨ s.onLine = true ∧ (s.incoming f.words).headerGood = true ∧
      (s.afterHeader f.words).judge (s.incoming f.words) = .ok u := by
  have hmem : s.atFrameEnd.mem = s.mem.served := s.settleTake_served
  unfold State.deliver at hd
  split at hd
  · cases hd
    exact .inl hmem
  rename_i ho
  split at hd
  · cases hd
    refine .inl ((s.atFrameEnd.headerFails_settles _).elim (fun hm => hm.trans hmem) fun hm => ?_)
    rw [hm, BufferMemory.served_none s.atFrameEnd_take, hmem]
  rename_i hg
  rw [State.atFrameEnd_onLine] at ho
  exact .inr ⟨by simpa using ho, by simpa using hg, hd⟩

/-- What a frame end may change: the words that the take before it stores, and, where a delivery is judged, those that the
frame owns. -/
theorem exec_frameDelivery_word (ht : exec (.frameDelivery f) s = .next t) (hne : t.word a ≠ s.word a) :
    s.takeStores a ∨ s.delivers f.words ∧ (s.afterHeader f.words).frameOwns (s.incoming f.words).header a := by
  unfold exec at ht
  rcases eventWithAccess_next ht with ⟨-, rfl⟩ | ⟨hr, hframe⟩
  · exact absurd rfl hne
  rcases State.frameDelivered_ok hframe with rfl | ⟨hi, u, hu, rfl⟩
  · exact absurd rfl hne
  rw [State.fill_word] at hne
  by_cases hserved : readCell s.mem.served.cells a = s.word a
  · rcases State.deliver_ok hu with hm | ⟨ho, hg, hj⟩
    · have htake : u.mem.take = none := by rw [hm]; exact s.finishTake_take
      rw [State.servesTake_none htake, State.word, hm] at hne
      exact absurd hserved hne
    · obtain ⟨hactivity, hover⟩ := (LineInterface.takingIn_iff _).mp hi
      obtain ⟨hcells, hstores⟩ := State.judge_begins hj (s.afterHeader_take f.words)
      have hword : u.word a = s.word a := by
        rw [State.word, hcells, State.afterHeader_mem]
        exact hserved
      exact .inr ⟨⟨hr, hactivity, hover, ho, hg⟩, hstores a (State.servesTake_word (hword ▸ hne))⟩
  · exact .inl (State.takeStores_of_served hserved)

/-! ### Owners before the take in progress ends (R119, R121) -/

/-- A receive unit whose ports are open as in another, and whose buffers are the other's, owns no other words. -/
theorem ReceiveUnit.ownsWord_mono (ho : ∀ p : Fin 16, v.ports[p].isOpen = r.ports[p].isOpen)
    (hp : ∀ p : Fin 16, ∀ b ∈ v.ports[p].posted, b ∈ r.ports[p].posted)
    (hc : ∀ (i : Fin 12) x, v.contexts[i] = some x →
      x.buffer ∈ r.ports[x.port].posted ∨ ∃ (j : Fin 12) (y : Context), r.contexts[j] = some y ∧ y.port = x.port ∧
        y.buffer = x.buffer) (h : v.ownsWord a) : r.ownsWord a := by
  obtain ⟨p, b, hopen, hb, hrange⟩ := h
  refine ⟨p, b, ho p ▸ hopen, ?_, hrange⟩
  rcases hb with hb | ⟨i, x, hx, rfl, rfl⟩
  · exact .inl (hp p b hb)
  · exact hc i x hx

/-- A segment store that fits owns the words of its buffer before its end already. -/
theorem ReceiveUnit.segmentStored_ownsWord {opens : Bool} (hf : r.storeFits i x opens)
    (h : (r.segmentStored i x opens).ownsWord a) : r.ownsWord a := by
  refine ReceiveUnit.ownsWord_mono (r.segmentStored_isOpen i x opens) (r.segmentStored_posted i x opens)
    (fun j y hy => ?_) h
  rw [ReceiveUnit.segmentStored_context] at hy
  split at hy
  · split at hy
    · cases hy
    · cases hy
      obtain ⟨-, hentry⟩ := hf
      cases opens with
      | true =>
        obtain ⟨-, hhead, -⟩ := hentry
        exact .inl (List.mem_of_mem_head? hhead)
      | false =>
        obtain ⟨d, hd, -, -, hport, hbuffer⟩ := hentry
        exact .inr ⟨i, d, hd, hport, hbuffer⟩
  · exact .inr ⟨j, y, hy, rfl, rfl⟩

theorem State.finishTake_ownsWord (hs : s.takeFits) (h : s.finishTake.recv.ownsWord a) : s.recv.ownsWord a := by
  cases hk : s.mem.take with
  | none => rwa [State.finishTake_none hk] at h
  | some k =>
    match hw : k.work with
    | .store rest (.segment i x opens) =>
      rw [State.finishTake_store hk hw] at h
      exact ReceiveUnit.segmentStored_ownsWord (hs k rest i x opens hk hw) h
    | .store rest (.window w p) => rwa [State.finishTake_store hk hw] at h
    | .fetch n got => rwa [State.finishTake_fetch hk hw] at h

theorem State.settleTake_ownsWord (hs : s.takeFits) (h : s.settleTake.recv.ownsWord a) : s.recv.ownsWord a := by
  refine State.finishTake_ownsWord hs ?_
  refine State.settleTake_induction (P := fun t => t.recv.ownsWord a → s.finishTake.recv.ownsWord a) s id
    (fun t ht hfill => ht ?_) h
  refine ReceiveUnit.ownsWord_mono (fun p => ?_) (fun p b hb => ?_) (fun i x hx => ?_) hfill
  · rw [State.fill_port]
  · rwa [State.fill_port] at hb
  · rw [State.fill_contexts] at hx
    exact .inr ⟨i, x, hx, rfl, rfl⟩

/-- A purge leaves no new owner (R125). -/
theorem ReceiveUnit.purgeOrder_ownsWord {p : Fin 32} (h : (r.purgeOrder p).ownsWord a) : r.ownsWord a := by
  obtain ⟨hcontexts, hports, -⟩ := r.purgeOrder_spec p
  refine ReceiveUnit.ownsWord_mono (fun q => (hports q).1) (fun q b hb => (hports q).2 ▸ hb) (fun i x hx => ?_) h
  rw [hcontexts, Option.filter_eq_some_iff] at hx
  exact .inr ⟨i, x, hx.1, rfl, rfl⟩

theorem State.afterHeader_ownsWord (hs : s.takeFits) (h : (s.afterHeader ws).recv.ownsWord a) : s.recv.ownsWord a := by
  rw [State.afterHeader_presenceTakes] at h
  refine State.settleTake_ownsWord hs ?_
  rcases (s.beforePresence ws).presenceTakes_recv (s.incoming ws).header with hrecv | hrecv <;> rw [hrecv] at h
  · exact h
  · exact ReceiveUnit.purgeOrder_ownsWord h

theorem State.afterHeader_consistent (hs : s.receiveConsistent) : (s.afterHeader ws).recv.consistent := by
  have hbefore : s.Follows (s.beforePresence ws) := s.atFrameEnd_follows.trans (.beside _)
  have hafter := State.presenceTakes_follows (s := s.beforePresence ws) (s.incoming ws).header s.atFrameEnd_take
  exact ((hbefore.trans hafter).receive hs).unit

/-- The window entry that a frame meets at its judgement is defined as before the take in progress ended (R134). -/
theorem State.afterHeader_windowOwns {w : Fin 8} (h' : (s.afterHeader ws).windows[w].ownsWord h a) :
    s.windows[w].ownsWord h a := by
  rw [State.afterHeader_windows, State.settleTake_window] at h'
  exact h'

/-! ### Every command -/

/-- The completion of a take is the only other change of a word. -/
theorem exec_settles_word (hm : t.mem = s.mem ∨ c.completesTake = true ∧ t.mem = s.mem.served)
    (hne : t.word a ≠ s.word a) : s.takeStores a ∧ c.completesTake = true := by
  rcases hm with hm | ⟨hc, hm⟩
  · exact absurd (by rw [State.word, hm]; rfl) hne
  · rw [State.word, hm] at hne
    exact ⟨State.takeStores_of_served hne, hc⟩

theorem exec_pinReset_word (ht : exec .pinReset s = .next t) : t.word a = s.word a := by
  rw [exec_pinReset] at ht
  cases ht
  rfl

theorem exec_resetRelease_word {sid scn : BitVec 5} {srt : BitVec 2} (ht : exec (.resetRelease sid scn srt) s = .next t) :
    t.word a = s.word a := by
  cases ht
  split <;> rfl

/-- Settles O57: the resets, the frame end, the controller's service and the host's accesses each change the words they own,
and any other command those of a take that it finds in progress. -/
theorem memoryIsChangedOnlyByItsOwners : Obligations.MemoryIsChangedOnlyByItsOwners := by
  intro s t c a ht hne
  cases hk : beginsAccess c with
  | some k =>
    rw [exec_beginsAccess hk] at ht
    rcases event_next ht with ⟨-, rfl⟩ | ⟨-, rfl⟩
    · exact absurd rfl hne
    · obtain ⟨b, v, rfl, hb, ha⟩ := State.hostAccess_word hne
      exact .inr (.inl ⟨b, v, beginsAccess_memory hk (hb ▸ ha), hb, ha⟩)
  | none =>
    cases c with
    | powerOnReset => exact .inl rfl
    | pinReset => exact absurd (exec_pinReset_word ht) hne
    | resetRelease => exact absurd (exec_resetRelease_word ht) hne
    | laneWordAccess =>
      rcases exec_laneWordAccess_word ht hne with hline | hhost | hlane | htake
      · exact .inr (.inr (.inl ⟨rfl, .inl hline⟩))
      · exact .inr (.inr (.inl ⟨rfl, .inr (.inl hhost)⟩))
      · exact .inr (.inr (.inl ⟨rfl, .inr (.inr hlane)⟩))
      · exact .inr (.inr (.inr (.inl ⟨htake, rfl⟩)))
    | frameDelivery f =>
      rcases exec_frameDelivery_word ht hne with htake | ⟨hd, ⟨hkind, hwindow⟩ | ⟨hkind, hdata⟩⟩
      · exact .inr (.inr (.inr (.inl ⟨htake, rfl⟩)))
      · obtain ⟨henabled, hallowed, hpeer, hlow, hhigh⟩ := State.afterHeader_windowOwns hwindow
        exact .inr (.inr (.inr (.inr ⟨f, rfl, hd, .inl ⟨hkind, henabled, hallowed, hpeer, hlow, hhigh⟩⟩)))
      · refine .inr (.inr (.inr (.inr ⟨f, rfl, hd, .inr ⟨hkind, fun hs => ?_⟩⟩)))
        obtain ⟨-, hfits⟩ := (State.receiveConsistent_iff s).mp hs
        exact State.afterHeader_ownsWord hfits (hdata (State.afterHeader_consistent hs))
    | _ => exact .inr (.inr (.inr (.inl (exec_settles_word (exec_mem ht rfl (by nofun) (by nofun) hk) hne))))

end Sys2Proof.Machine
end

section
/-! LOAD WINDOW and CLEAR WINDOW (R131, R132, R136, R166). -/

namespace Sys2Proof.Machine

variable {s : State} {w : Fin 8}

/-! ### The window that parameter 0 names (R167) -/

theorem State.paramWindow_none (h : 7 < s.host.params[0].toNat) : s.paramWindow = none := numberBelow_none h

theorem State.paramWindow_some (h : s.host.params[0].toNat = w.val) : s.paramWindow = some w := numberBelow_some h

/-! ### LOAD WINDOW (R131) -/

theorem exec_loadWindow (h : s.commandWaits 8) :
    exec .loadWindow s = .next (s.doLoadWindow.1.completed s.doLoadWindow.2).fill :=
  takeCommand_waits h (code := 8) rfl State.doLoadWindow

theorem State.doLoadWindow_noWindow (h : 7 < s.host.params[0].toNat) : s.doLoadWindow = (s, .badParameter) := by
  rw [State.doLoadWindow, State.paramWindow_none h]

/-- LOAD WINDOW at an entry: the words are judged to lie inside buffer memory; the entry keeps its last writer and its
written-pending count. -/
theorem State.doLoadWindow_window (h : s.host.params[0].toNat = w.val) :
    s.doLoadWindow =
      if 16383 < s.host.params[1].toNat ∨ s.host.params[2].toNat < 1 ∨ 16384 < s.host.params[2].toNat ∨
          16384 < s.host.params[1].toNat + s.host.params[2].toNat then (s, .badParameter)
      else (s.settleTake.updateWindow w fun x => { x with
        enabled := true
        base := s.host.params[1].toNat
        length := s.host.params[2].toNat
        readAllowed := s.host.params[3].getLsbD 0
        writeAllowed := s.host.params[3].getLsbD 1
        notify := s.host.params[3].getLsbD 2
        peers := s.host.params[5] ++ s.host.params[4]
        updates := 0 }, .ok) := by
  rw [State.doLoadWindow, State.paramWindow_some h]
  rfl

/-! ### CLEAR WINDOW (R132) -/

theorem exec_clearWindow (h : s.commandWaits 9) :
    exec .clearWindow s = .next (s.doClearWindow.1.completed s.doClearWindow.2).fill :=
  takeCommand_waits h (code := 9) rfl State.doClearWindow

theorem State.doClearWindow_noWindow (h : 7 < s.host.params[0].toNat) : s.doClearWindow = (s, .badParameter) := by
  rw [State.doClearWindow, State.paramWindow_none h]

theorem State.doClearWindow_window (h : s.host.params[0].toNat = w.val) :
    s.doClearWindow = (s.settleTake.updateWindow w fun x => { x with enabled := false }, .ok) := by
  rw [State.doClearWindow, State.paramWindow_some h]

/-- Settles O45: each command without a window, then at its entry, where LOAD WINDOW is judged. -/
theorem windowCommands : Obligations.WindowCommands := by
  intro s b
  refine ⟨fun hn => ⟨fun h => ?_, fun h => ?_⟩, fun w hw => ⟨fun h => ?_, fun h => ?_⟩⟩
  · rw [exec_loadWindow h, State.doLoadWindow_noWindow hn]
  · rw [exec_clearWindow h, State.doClearWindow_noWindow hn]
  · rw [exec_clearWindow h, State.doClearWindow_window hw]
    rfl
  · intro base n
    rw [exec_loadWindow h, State.doLoadWindow_window hw]
    refine ⟨fun hbad => ?_, fun hlow hend => ?_⟩
    · rw [if_pos hbad]
    · have hfits : ¬(16383 < base ∨ n < 1 ∨ 16384 < n ∨ 16384 < base + n) := by omega
      rw [if_neg hfits]
      rfl

end Sys2Proof.Machine
end

section
/-! Remote READ and WRITE at the window unit (Table 8.2, R133 to R135, R161): the judgement, the store and the fetch. -/

namespace Sys2Proof.Machine

variable {s : State} {w : Window} {h : Header} {d : Delivery} {code : ReplyCode} {ws : List Word} {x : Word}
  {allowed : Bool} {a k : Nat}

/-! ### The tests in order (Table 8.2) -/

theorem Window.judge_notEnabled (he : w.enabled = false) : w.judge h allowed = some .refusedWindow :=
  if_pos (by rw [he]; rfl)

/-- Past the first test the words are held to the entry's length. -/
theorem Window.judge_enabled (he : w.enabled = true) :
    w.judge h allowed =
      if w.length < h.offset + h.wordCount then some .refusedBounds
      else if !w.peers.getLsbD h.source.val || !allowed then some .refusedDenied
      else none :=
  if_neg (by rw [he]; decide)

theorem Window.judge_outOfBounds (he : w.enabled = true) (hn : w.length < h.offset + h.wordCount) :
    w.judge h allowed = some .refusedBounds := by
  rw [Window.judge_enabled he, if_pos hn]

/-- A peer outside the mask, and a kind that the entry does not allow, are denied. -/
theorem Window.judge_denied (he : w.enabled = true) (hn : h.offset + h.wordCount ≤ w.length)
    (hp : ¬(w.peers.getLsbD h.source.val = true ∧ allowed = true)) : w.judge h allowed = some .refusedDenied := by
  have hdenied : (!w.peers.getLsbD h.source.val || !allowed) = true := by
    rwa [← Bool.not_and, Bool.not_eq_true', Bool.eq_false_iff, ne_eq, Bool.and_eq_true]
  rw [Window.judge_enabled he, if_neg (Nat.not_lt.mpr hn), if_pos hdenied]

theorem Window.judge_passes (he : w.enabled = true) (hn : h.offset + h.wordCount ≤ w.length)
    (hp : w.peers.getLsbD h.source.val = true) (ha : allowed = true) : w.judge h allowed = none := by
  rw [Window.judge_enabled he, if_neg (Nat.not_lt.mpr hn), hp, ha]
  rfl

/-- The entry allows requests of the kind of `h`, a READ or a WRITE. -/
def Window.allows (w : Window) (h : Header) : Bool := if h.kind = some .read then w.readAllowed else w.writeAllowed

theorem Window.allows_read (hk : h.kind = some .read) : w.allows h = w.readAllowed := if_pos hk

theorem Window.allows_write (hk : h.kind = some .write) : w.allows h = w.writeAllowed := if_neg (by rw [hk]; decide)

theorem Window.allows_iff :
    w.allows h = true ↔ if h.kind = some .read then w.readAllowed = true else w.writeAllowed = true := by
  unfold Window.allows
  split <;> rfl

/-! ### The answer of the window unit -/

theorem State.handOn_write (hf : d.payloadFault = false) (hk : d.header.kind = some .write) :
    s.handOn d = State.answered (s.windowWrite d.header d.payload false) d.header := by
  simp only [State.handOn, hk, hf]

theorem State.handOn_read (hf : d.payloadFault = false) (hk : d.header.kind = some .read) :
    s.handOn d = State.answered (s.windowRead d.header) d.header := by
  simp only [State.handOn, hk, hf, Bool.false_eq_true, if_false]

/-- A request that fails a test is answered and changes nothing else. -/
theorem State.handOn_windowRefuses (hk : d.header.kind = some .read ∨ d.header.kind = some .write)
    (hf : d.payloadFault = false)
    (hj : s.windows[d.header.window].judge d.header (s.windows[d.header.window].allows d.header) = some code) :
    s.handOn d = .ok (s.answer d.header code []) := by
  rcases hk with hk | hk
  · rw [Window.allows_read hk] at hj
    rw [State.handOn_read hf hk, State.windowRead, hj]
    rfl
  · rw [Window.allows_write hk] at hj
    rw [State.handOn_write hf hk, State.windowWrite, if_neg (by decide), hj]
    rfl

/-- A take of `work` stands at its first word, at address `a` (R161). -/
def State.taking (s : State) (a : Nat) (work : LineWork) : State :=
  { s with mem := { s.mem with take := some { address := a, work := work, claimed := false } } }

/-- A READ that passes the tests begins its fetch (R135). -/
theorem State.handOn_readAccepted (hk : d.header.kind = some .read) (hf : d.payloadFault = false)
    (hj : s.windows[d.header.window].judge d.header (s.windows[d.header.window].allows d.header) = none)
    (hin : s.windows[d.header.window].base + d.header.offset + d.header.wordCount ≤ 16384) :
    s.handOn d = .ok ((s.taking (s.windows[d.header.window].base + d.header.offset)
      (.fetch d.header.wordCount [])).answer d.header .accepted []) := by
  rw [Window.allows_read hk] at hj
  rw [State.handOn_read hf hk, State.windowRead, hj]
  simp only
  rw [State.beginTake_eq hin]
  rfl

/-- A WRITE that passes the tests begins its store (R134). -/
theorem State.handOn_writeAccepted (hk : d.header.kind = some .write) (hf : d.payloadFault = false)
    (hj : s.windows[d.header.window].judge d.header (s.windows[d.header.window].allows d.header) = none)
    (hin : s.windows[d.header.window].base + d.header.offset + d.payload.length ≤ 16384) :
    s.handOn d = .ok ((s.taking (s.windows[d.header.window].base + d.header.offset)
      (.store d.payload (.window d.header.window d.header.source))).answer d.header .accepted []) := by
  rw [Window.allows_write hk] at hj
  rw [State.handOn_write hf hk, State.windowWrite, if_neg (by decide), hj]
  simp only
  rw [State.beginTake_eq hin]
  rfl

/-- A WRITE without a payload fault brings the words it counts (R46, R51). -/
theorem Delivery.payload_length_write (hk : d.header.kind = some .write) (hf : d.payloadFault = false) :
    d.payload.length = d.header.wordCount := by
  rw [Delivery.length_of_sound hf, Header.expectedCount, hk]

/-! ### The ends of the takes (R134, R135) -/

/-- A fetch, its reply owed, ends with its words in the reply and nothing else changed (R135). -/
theorem State.fetching_finishTake {n : Nat} (ht : s.mem.take = none) :
    ((s.taking a (.fetch n [])).answer h code []).finishTake =
      s.answer h code ((List.range n).map fun k => s.word (a + k)) := by
  rw [State.finishTake_fetch (k := { address := a, work := .fetch n [], claimed := false }) rfl rfl, ← ht]
  rfl

/-- The payload of a WRITE is stored from `a` up and the entry has counted it (R134). -/
def State.windowStored (s : State) (h : Header) (a : Nat) (ws : List Word) : State :=
  { s with
    mem := { s.mem with cells := writeCells s.mem.cells a ws }
    windows := s.windows.set h.window (s.windows[h.window].written h.source) }

/-- The store of a WRITE, its reply owed, ends with the payload stored and counted (R134). -/
theorem State.windowStoring_finishTake (ht : s.mem.take = none) :
    ((s.taking a (.store ws (.window h.window h.source))).answer h code []).finishTake =
      (s.windowStored h a ws).answer h code [] := by
  rw [State.finishTake_store (k := { address := a, work := .store ws (.window h.window h.source), claimed := false })
    rfl rfl, ← ht]
  rfl

/-- The counts of an accepted WRITE: the written-pending count stays at 65535 (R134). -/
theorem Window.written_eq (w : Window) (p : Fin 32) :
    w.written p = { w with
      updates := w.updates + 1
      lastWriter := some p
      pending := if w.notify then (if w.pending < 65535 then w.pending + 1 else 65535) else w.pending } := by
  have hcount : min (w.pending + 1) 65535 = if w.pending < 65535 then w.pending + 1 else 65535 := by
    split <;> omega
  rw [Window.written, hcount]

theorem State.windowStored_word (hx : ws[k]? = some x) : (s.windowStored h a ws).word (a + k) = x := by
  obtain ⟨hk, hget⟩ := List.getElem?_eq_some_iff.mp hx
  rw [State.word, State.windowStored, readCell_writeCells, if_pos (by omega), Nat.add_sub_cancel_left,
    List.getD_eq_getElem _ _ hk, hget]

theorem State.windowStored_word_outside {b : Nat} (hb : b < a ∨ a + ws.length ≤ b) :
    (s.windowStored h a ws).word b = s.word b := by
  rw [State.word, State.windowStored, readCell_writeCells, if_neg (by omega)]
  rfl

/-- Settles O52: the three refusals in the order of the tests, then the fetch of a READ and the store of a WRITE. -/
theorem remoteReadAndWrite : Obligations.RemoteReadAndWrite := by
  intro s f hr h payload b w answer permitted hk
  have hgood : (s.incoming f.words).payloadFault = false := hr.payloadGood
  have hpermitted : permitted ↔ w.peers.getLsbD h.source.val = true ∧ w.allows h = true :=
    and_congr_right' Window.allows_iff.symm
  have hrefused {code : ReplyCode} (hj : w.judge h (w.allows h) = some code) :
      exec (.frameDelivery f) s = .next (answer b code []).fill :=
    exec_frameDelivery_atBlock hr (State.handOn_windowRefuses hk hgood hj) rfl
  have hjudged {t : State} (ht : b.handOn (s.incoming f.words) = .ok t) :
      exec (.frameDelivery f) s = .next (t.servesTake f.pause).fill :=
    exec_frameDelivery_judged hr.1 ((State.judge_of_reachesBlock hr).trans ht)
  have hnone : b.mem.take = none := s.afterHeader_take f.words
  refine ⟨fun he => hrefused (Window.judge_notEnabled he), fun he hn => hrefused (Window.judge_outOfBounds he hn),
    fun he hn hp => hrefused (Window.judge_denied he hn (mt hpermitted.mpr hp)), fun he hn hp hin => ?_⟩
  obtain ⟨hpeer, hallowed⟩ := hpermitted.mp hp
  have hpasses : w.judge h (w.allows h) = none := Window.judge_passes he hn hpeer hallowed
  intro take begun
  refine ⟨fun hread => ?_, fun hwrite => ?_⟩
  · exact ⟨hjudged (State.handOn_readAccepted hread hgood hpasses hin), State.fetching_finishTake hnone⟩
  · have hlength : payload.length = h.wordCount := Delivery.payload_length_write hwrite hgood
    rw [← hlength] at hin ⊢
    refine ⟨b.windowStored h (w.base + h.offset) payload,
      hjudged (State.handOn_writeAccepted hwrite hgood hpasses hin), State.windowStoring_finishTake hnone, ?_, rfl,
      fun k x hx => State.windowStored_word hx, fun a ha => State.windowStored_word_outside ha⟩
    rw [← Window.written_eq]
    rfl

end Sys2Proof.Machine
end

section
/-! One take of the event queue: the arbiter's choice, the entry it adds, and the fill after it (R150, R152, R153). -/

namespace Sys2Proof.Machine

variable {s t v : State} {pos : Fin 35} {src : Source} {e : Event}

/-! ### The arbiter (R152) -/

/-- The arbiter examines the position of place `k` as its `k`-th. -/
theorem sourcePlace_arbiter (p k : Fin 35) : sourcePlace p (p + 1 + k) = k.val := by
  have hone : (1 : Fin 35).val = 1 := rfl
  rw [sourcePlace, Fin.val_add, Fin.val_add, hone]
  omega

theorem arbiterOrder_ordered (p : Fin 35) :
    (arbiterOrder p).Pairwise fun q r => sourcePlace p q < sourcePlace p r := by
  rw [arbiterOrder, List.pairwise_map]
  simp only [sourcePlace_arbiter]
  exact List.pairwise_lt_finRange 35

/-- In a list in the order of `place` the search finds the member of least place that satisfies `q`. -/
theorem find?_first_of_ordered {α : Type} {place : α → Nat} {q : α → Bool} {a : α} {l : List α}
    (hl : l.Pairwise fun x y => place x < place y) (ha : a ∈ l) (hq : q a = true)
    (hmin : ∀ x, q x = true → place a ≤ place x) : l.find? q = some a := by
  induction l with
  | nil => cases ha
  | cons x l ih =>
    obtain ⟨hx, hl⟩ := List.pairwise_cons.mp hl
    cases hqx : q x with
    | true =>
      rw [List.find?_cons_of_pos hqx]
      rcases List.mem_cons.mp ha with rfl | ha
      · rfl
      · exact absurd (hx a ha) (Nat.not_lt.mpr (hmin x hqx))
    | false =>
      have hne : a ≠ x := fun h => by rw [← h, hq] at hqx; cases hqx
      rw [List.find?_cons_of_neg (by rw [hqx]; decide)]
      exact ih hl (List.mem_of_ne_of_mem hne ha)

theorem State.nextSource_first (hp : s.sourcePending (sourceAt pos) = true)
    (hmin : ∀ q, s.sourcePending (sourceAt q) = true → sourcePlace s.queue.pointer pos ≤ sourcePlace s.queue.pointer q) :
    s.nextSource = some pos :=
  find?_first_of_ordered (arbiterOrder_ordered _) (mem_arbiterOrder _ pos) hp hmin

theorem State.nextSource_none (h : ∀ pos, s.sourcePending (sourceAt pos) = false) : s.nextSource = none :=
  List.find?_eq_none.mpr fun pos _ => Bool.eq_false_iff.mp (h pos)

/-! ### The take (R153) -/

theorem State.take_full (h : 64 ≤ s.queue.entries.length) : s.take = none := if_neg (Nat.not_lt.mpr h)

theorem State.take_notPending (h : s.nextSource = none) : s.take = none := by
  rw [State.take, h]
  exact ite_self none

theorem State.take_chosen (hl : s.queue.entries.length < 64) (hn : s.nextSource = some pos)
    (hr : s.report (sourceAt pos) = some (e, v)) : s.take = some (v.enqueue pos e) := by
  rw [State.take, hn]
  simp only [hr]
  exact if_pos hl

/-- The entry added after a report has the time base and the serial from before it (R150). -/
theorem State.enqueue_report (h : s.report src = some (e, v)) (pos : Fin 35) :
    v.enqueue pos e = { v with queue :=
      { entries := s.queue.entries ++ [{ event := e, timestamp := s.time.micros, serial := s.queue.serial }]
        serial := s.queue.serial + 1
        pointer := pos } } := by
  have hqueue : v.queue = s.queue := by rw [State.report_frame h]
  have htime : v.time = s.time := by rw [State.report_frame h]
  rw [State.enqueue, hqueue, htime]

theorem exec_queueTake_none (h : s.resetHeld = false) (ht : s.take = none) : exec .queueTake s = .next s :=
  (event_running h State.takeAndFill).trans (by rw [State.takeAndFill, ht])

theorem exec_queueTake_some (h : s.resetHeld = false) (ht : s.take = some t) : exec .queueTake s = .next t.fill :=
  (event_running h State.takeAndFill).trans (by rw [State.takeAndFill, ht])

/-- Settles O33: no take from a full queue or without a pending source; otherwise the arbiter's choice reports. -/
theorem queueTakesOneReport : Obligations.QueueTakesOneReport := by
  intro s h
  refine ⟨fun hfull => exec_queueTake_none h (State.take_full hfull),
    fun hnone => exec_queueTake_none h (State.take_notPending (State.nextSource_none hnone)),
    fun pos hfree hpending hmin => ?_⟩
  obtain ⟨⟨e, v⟩, hreport⟩ := Option.isSome_iff_exists.mp ((s.report_isSome (sourceAt pos)).trans hpending)
  have htake : s.take = some (v.enqueue pos e) := State.take_chosen hfree (State.nextSource_first hpending hmin) hreport
  refine ⟨e, v, hreport, ?_⟩
  rw [exec_queueTake_some h htake, State.enqueue_report hreport]

end Sys2Proof.Machine
end

section
/-! A write to a control page word that is served at once, the words of an event entry, and the pop of the head entry
(R150, R154, R155, R159, R172, Table 12.4). -/

namespace Sys2Proof.Machine

variable {s : State} {c : Instr} {page : BitVec 5} {v : Word} {e : Entry}

/-! ### A write to a control page word (R159, R162) -/

theorem State.hostWrite_controlAddress (s : State) (page : BitVec 5) (v : Word) :
    s.hostWrite (controlAddress page) v = s.pageWrite page v := by
  have hpage := page.isLt
  have hword : BitVec.ofNat 5 (16384 + page.toNat - 16384) = page := by
    rw [Nat.add_sub_cancel_left, BitVec.ofNat_toNat, BitVec.setWidth_eq]
  rw [State.hostWrite, controlAddress_toNat, Config.memoryWords, if_neg (by omega), if_pos (by omega), hword]

/-- A write to a control page word that finds the path free is served at once, with no data driven, whichever row of the
table hands it. -/
theorem exec_writesPage (h : s.resetHeld = false) (hf : s.hostPathFree = true)
    (hc : beginsAccess c = some (.write (controlAddress page) v)) :
    exec c s = .next (({ s with host := { s.host with dataOut := none } } : State).pageWrite page v) := by
  have hserved : event s (fun s => s.hostAccess (.write (controlAddress page) v)) =
      .next (({ s with host := { s.host with dataOut := none } } : State).pageWrite page v) := by
    rw [event_running h, State.hostAccess_free hf, ← State.hostWrite_controlAddress]
    rfl
  rw [← hserved]
  rcases beginsAccess_write hc with rfl | ⟨a, rfl⟩ | ⟨rfl, rfl⟩ | ⟨rfl, rfl⟩ | ⟨rfl, rfl⟩ | ⟨rfl, rfl⟩
  · rfl
  · cases hc
    rfl
  all_goals rfl

/-- The same for a word that has a row of its own, written by that row or by the row of the page. -/
theorem exec_writesPage_eitherRow {row : Instr} (h : s.resetHeld = false) (hf : s.hostPathFree = true)
    (hrow : beginsAccess row = some (.write (controlAddress page) v)) (hc : c ∈ [row, .controlPageWrite page v]) :
    exec c s = .next (({ s with host := { s.host with dataOut := none } } : State).pageWrite page v) := by
  rcases List.mem_pair.mp hc with rfl | rfl
  · exact exec_writesPage h hf hrow
  · exact exec_writesPage h hf rfl

/-! ### The words of an entry (R150, R172) -/

theorem EventKind.code_lt (k : EventKind) : k.code < 16 := by cases k <;> decide

theorem Event.word0_fields {e : Event} (hu : e.unit < 32) :
    field e.word0 12 4 = e.kind.code ∧ field e.word0 0 5 = e.unit := by
  have hkind := e.kind.code_lt
  rw [Event.word0, field_ofNat _ _ _ (by omega), field_ofNat _ _ _ (by omega)]
  omega

theorem Event.word1_fields {e : Event} (hp : e.peer < 64) (hs : e.status < 256) :
    field e.word1 10 6 = e.peer ∧ field e.word1 0 8 = e.status := by
  rw [Event.word1, field_ofNat _ _ _ (by omega), field_ofNat _ _ _ (by omega)]
  omega

/-! ### The head words (R154) -/

theorem State.hostRead_head (s : State) (k : Fin 8) : s.hostRead (BitVec.ofNat 15 (16384 + 8 + k.val)) = s.headWord k := by
  fin_cases k <;> rfl

theorem State.headWord_nil (h : s.queue.entries = []) (k : Fin 8) : s.headWord k = 0 := by
  rw [State.headWord, h]

theorem State.headWord_cons {rest : List Entry} (h : s.queue.entries = e :: rest) (k : Fin 8) :
    s.headWord k = e.words[k] := by
  rw [State.headWord, h]

/-- Settles O36: the entry's words, the words at the head, and the pop by either row that writes word 16. -/
theorem headEntryIsShownAndPopped : Obligations.HeadEntryIsShownAndPopped := by
  refine ⟨fun e hunit hpeer hstatus => ?_, fun s k => ?_, fun s v h hfree c hc => ?_⟩
  · obtain ⟨hkind, hunit⟩ := Event.word0_fields hunit
    obtain ⟨hpeer, hstatus⟩ := Event.word1_fields hpeer hstatus
    exact ⟨hkind, hunit, hpeer, hstatus, rfl, rfl, rfl, high16_append_low16 e.timestamp, rfl⟩
  · rw [State.hostRead_head]
    exact ⟨fun hq => State.headWord_nil hq k, fun e rest hq => State.headWord_cons hq k⟩
  · intro b
    have hpop : exec c s = .next b.acknowledge := exec_writesPage_eitherRow h hfree rfl hc
    rw [hpop]
    exact ⟨fun hq => by rw [State.acknowledge_nil (s := b) hq],
      fun e rest hq => by rw [State.acknowledge_cons (s := b) hq]⟩

end Sys2Proof.Machine
end

section
/-! What writes to the control page words change, the high-word latch, and HINT (R156, R157, R162 to R165, Table 11.2). -/

namespace Sys2Proof.Machine

variable {s : State} {page : BitVec 5} {v : Word}

/-! ### The words that a write changes (R162, R165) -/

theorem State.pageWrite_param (s : State) (k : Fin 6) (v : Word) :
    s.pageWrite (BitVec.ofNat 5 (18 + k.val)) v = { s with host := s.host.writeParam k v } := by
  fin_cases k <;> rfl

/-- A write to a read-only or an unused word is ignored (R162). -/
theorem State.pageWrite_readOnly (h : page.toNat ≤ 2 ∨ 5 ≤ page.toNat ∧ page.toNat ≤ 15 ∨ 24 ≤ page.toNat) :
    s.pageWrite page v = s := by
  unfold State.pageWrite
  split
  case h_11 => rfl
  all_goals omega

theorem HostPort.writeParam_station {h : HostPort} (ho : h.owner = .station) (k : Fin 6) (v : Word) :
    h.writeParam k v = h := by
  rw [HostPort.writeParam, ho]

theorem HostPort.writeParam_host {h : HostPort} (ho : h.owner = .host) (k : Fin 6) (v : Word) :
    h.writeParam k v = { h with params := h.params.set k v } := by
  rw [HostPort.writeParam, ho]

theorem codeOf_eq_zero_iff (v : Word) : codeOf v = 0 ↔ v.toNat % 256 = 0 := by
  rw [codeOf, ← BitVec.toNat_inj, BitVec.toNat_setWidth]
  rfl

theorem HostPort.writeCommand_noCode {h : HostPort} (ho : h.owner = .host) (hv : v.toNat % 256 = 0) :
    h.writeCommand v = { h with code := 0 } := by
  rw [HostPort.writeCommand, ho]
  exact if_pos ((codeOf_eq_zero_iff v).mpr hv)

/-- A code that is not 0 hands the slot to the station (R165). -/
theorem HostPort.writeCommand_code {h : HostPort} (ho : h.owner = .host) (hv : v.toNat % 256 ≠ 0) :
    h.writeCommand v = { h with code := v.setWidth 8, owner := .station } := by
  rw [HostPort.writeCommand, ho]
  exact if_neg (mt (codeOf_eq_zero_iff v).mp hv)

/-! ### The interrupt line and the latch (R156, R163) -/

theorem State.hint_iff (s : State) :
    s.hint = true ↔ s.queue.entries ≠ [] ∧ s.host.enableEvent = true ∨
      s.line.lineFault = true ∧ s.host.enableLineFault = true ∨
      s.host.commandDone = true ∧ s.host.enableCommandDone = true := by
  simp [State.hint, or_assoc]

theorem exec_timeBaseLowRead_free (h : s.resetHeld = false) (hf : s.hostPathFree = true) :
    exec .timeBaseLowRead s = .next { s with host := { s.host with
      dataOut := some (s.time.micros.setWidth 16), latch := (s.time.micros >>> 16).setWidth 16 } } :=
  (event_running h fun s => s.hostAccess (.read (controlAddress 5) true)).trans
    (congrArg _ (State.hostAccess_free hf _))

/-- Settles O38: word by word, each write handed by its own row and by the row of the page. -/
theorem controlPageWritesAndLatch : Obligations.ControlPageWritesAndLatch := by
  intro s v h hfree b
  have hwrite {c : Instr} {page : BitVec 5} (hc : beginsAccess c = some (.write (controlAddress page) v)) :
      exec c s = .next (b.pageWrite page v) := exec_writesPage h hfree hc
  refine ⟨fun c hc => ?_, fun k => ?_, fun c hc => ?_, fun page hpage => ?_, exec_timeBaseLowRead_free h hfree,
    ⟨b.writeCauses v, hwrite (page := 4) rfl, hwrite (page := 4) rfl, rfl, fun hv => ?_, fun hv => ?_⟩, s.hint_iff⟩
  · exact exec_writesPage_eitherRow h hfree rfl hc
  · rw [hwrite rfl, State.pageWrite_param]
    exact ⟨fun ho => by rw [HostPort.writeParam_host (h := b.host) ho],
      fun ho => by rw [HostPort.writeParam_station (h := b.host) ho]⟩
  · have hcommand : exec c s = .next { b with host := b.host.writeCommand v } :=
      exec_writesPage_eitherRow h hfree rfl hc
    rw [hcommand]
    exact ⟨fun ho => by rw [HostPort.writeCommand_station (h := b.host) ho],
      fun ho hv => by rw [HostPort.writeCommand_noCode (h := b.host) ho hv],
      fun ho hv => by rw [HostPort.writeCommand_code (h := b.host) ho hv]⟩
  · rw [hwrite rfl, State.pageWrite_readOnly hpage]
  · show (s.host.commandDone && !v.getLsbD 2) = false
    rw [hv, Bool.not_true, Bool.and_false]
  · show (s.host.commandDone && !v.getLsbD 2) = s.host.commandDone
    rw [hv, Bool.not_false, Bool.and_true]

end Sys2Proof.Machine
end

section
/-! Host accesses by address, and the accesses that wait with HRDY low (R158, R159, R160, Table 11.1). -/

namespace Sys2Proof.Machine

variable {s : State} {a : BitVec 15} {page : BitVec 5} {v : Word} {c : Instr} {k : HostClaim}

/-! ### Writes by address (R158) -/

theorem State.hostWrite_memory (ha : a.toNat < 16384) (v : Word) :
    s.hostWrite a v = { s with mem := { s.mem with cells := writeCell a.toNat v s.mem.cells } } := if_pos ha

theorem State.hostWrite_above (ha : 16416 ≤ a.toNat) (v : Word) : s.hostWrite a v = s := by
  rw [State.hostWrite, Config.memoryWords, if_neg (by omega), if_neg (by omega)]

theorem State.hostWrite_word_same (ha : a.toNat < 16384) (v : Word) : (s.hostWrite a v).word a.toNat = v := by
  rw [State.hostWrite_memory ha]
  exact (readCell_writeCell _ _ _ _).trans (if_pos rfl)

theorem eq_controlAddress (ha : a.toNat = 16384 + page.toNat) : a = controlAddress page :=
  BitVec.eq_of_toNat_eq (ha.trans (controlAddress_toNat page).symm)

/-! ### Reads by address (R158, R163) -/

theorem State.hostRead_memory (ha : a.toNat < 16384) : s.hostRead a = s.word a.toNat := if_pos ha

theorem State.hostRead_above (ha : 16416 ≤ a.toNat) : s.hostRead a = 0 := by
  rw [State.hostRead, Config.memoryWords, if_neg (by omega), if_neg (by omega)]

theorem exec_hostMemoryRead_free (h : s.resetHeld = false) (hf : s.hostPathFree = true) (a : BitVec 15) :
    exec (.hostMemoryWrite a .read) s = .next { s with host := { s.host with
      dataOut := some (s.hostRead a)
      latch := if a = 16389 then (s.time.micros >>> 16).setWidth 16 else s.host.latch } } := by
  rw [exec_beginsAccess (c := .hostMemoryWrite a .read) rfl, event_running h, State.hostAccess_free hf]
  exact congrArg _ (State.showing_readServed s s.host.claims none a true)

/-! ### Accesses that wait (R159) -/

/-- An access that finds a claim waiting is queued, whichever row hands it; the accesses before it are abandoned. -/
theorem exec_hostAccess_waits (h : s.resetHeld = false) (hf : s.hostPathFree = false) (hc : beginsAccess c = some k) :
    exec c s = .next { s with host := { s.host with
      dataOut := none, claims := s.host.claims.map HostClaim.abandoned ++ [k] } } := by
  rw [exec_beginsAccess hc, event_running h, State.hostAccess_waits hf]

theorem State.hrdy_iff (s : State) : s.hrdy = true ↔ s.host.claims = [] := List.isEmpty_iff

/-- Settles O37: writes and reads by address range, the end of a strobe, and the accesses that wait. -/
theorem hostWritesByAddress : Obligations.HostWritesByAddress := by
  intro s a v h b abandoned
  refine ⟨fun hf ha => ?_, fun page ha => ?_, fun hf ha => ?_, fun hf => exec_hostMemoryRead_free h hf a, ?_,
    State.hostRead_memory, State.hostRead_above, ?_, fun hf c k hck => ?_, s.hrdy_iff⟩
  · refine ⟨b.hostWrite a v, exec_hostMemoryWrite_free h hf a v, ?_, ?_, fun x hx => ?_⟩
    · rw [State.hostWrite_memory ha]
    · rw [State.hostRead_memory ha, State.hostWrite_word_same ha]
    · by_contra hne
      exact hx (State.hostWrite_word (s := b) hne).1.symm
  · rw [eq_controlAddress ha]
    rfl
  · rw [exec_hostMemoryWrite_free h hf, State.hostWrite_above ha]
  · rw [exec_beginsAccess (c := .hostMemoryWrite 16389 .read) rfl, exec_beginsAccess (c := .timeBaseLowRead) rfl,
      controlAddress_five]
  · exact event_running h fun s => s.hostStrobe a .readEnds
  · have hbegins : beginsAccess c = some k := by
      simp only [List.mem_cons, Prod.mk.injEq, List.not_mem_nil, or_false] at hck
      rcases hck with ⟨rfl, rfl⟩ | ⟨rfl, rfl⟩ | ⟨rfl, rfl⟩ | ⟨rfl, rfl⟩ | ⟨rfl, rfl⟩ | ⟨rfl, rfl⟩ | ⟨rfl, rfl⟩ <;> rfl
    exact exec_hostAccess_waits h hf hbegins

end Sys2Proof.Machine
end


section
/-! The step at a queue that is not empty; `step_idle` is the other case. -/

namespace Sys2Proof.Machine

variable {s : State} {c : Instr} {rest : List Instr}

/-- With a command waiting a step is that command's execution; the command leaves the queue before it runs. -/
theorem step_pending (h : s.pending = c :: rest) : step s = exec c { s with pending := rest } := by
  rw [step, h]

/-- Settles O1: the step's case of a queue with a front command. -/
theorem stepRunsFrontCommand : Obligations.StepRunsFrontCommand :=
  fun _ _ _ h => step_pending h

end Sys2Proof.Machine
end
